-- ==== Sys2Proof/Word.lean ====
section
/-! DEFINITION. The word types of the block (00_scope.md R9, 30_encoding.md R60 to R63, R67). -/

namespace Sys2Proof

/-- One 8-bit value: a u8 (`Brightness`, `CompareLatch`, `TickCounter`; R60) or the bit pattern of an
s8 (`Increment`; R61). -/
abbrev Byte := BitVec 8

/-- One 24-bit event word (R67). -/
abbrev EventWord := BitVec 24

/-- An N-bit word with one bit per channel (`PinWord`, `OutPort`): entry `i` is bit `i`, the bit of
channel `i`, bit 0 least significant; `true` is high, lit (R42, R63; log 6). -/
abbrev PinBits := List Bool

/-- The number an N-bit word denotes, bit 0 least significant (R63). -/
def PinBits.value : PinBits → Nat
  | [] => 0
  | b :: bs => b.toNat + 2 * PinBits.value bs

end Sys2Proof
end

