-- ==== Sys2Proof/Config.lean ====
section
/-! DEFINITION. The configuration of a build of the block: the named parameters of 00_scope.md section 3, the
predicates the spec states about them, and the one value the spec leaves open (log 8). A `Config` is
fixed before reset and never changes (R10). -/

namespace Sys2Proof

/-- `HANDOFF_POLICY` (R12): which comparison step 2 of CHK makes. The spec decides `ge`; `eq` is the
variant R12 and R114 describe (log 10). -/
inductive HandoffPolicy where
  | ge
  | eq
  deriving DecidableEq, Repr

/-- The parameters of R16. All naturals are unbounded here, because the spec says what an invalid
configuration does (60_exceptions.md R141, R142). -/
structure Config where
  /-- `N`, the channel count (R5). -/
  n : Nat
  /-- `MAX_BRIGHT` (R6). -/
  maxBright : Nat
  /-- `START_THRESHOLD` (R7). -/
  startThreshold : Nat
  /-- `FADE_STEP`, written `S` (R8). -/
  fadeStep : Nat
  /-- `HANDOFF_POLICY` (R12). -/
  handoffPolicy : HandoffPolicy
  /-- `WRAPPER_PRESENT` (R14). -/
  wrapperPresent : Bool
  deriving DecidableEq, Repr

/-- DESIGN CHOICE (log 8): the bit pattern RST writes for `+S` when `S > 127`. R170 says that such an
`S` 'has no s8 value `+S`'; the value is free. -/
opaque Config.seedOutOfRange : Nat → Byte

/-- The source's example configuration, CFG-A of 95_test_vectors.md. -/
def Config.cfgA : Config :=
  { n := 3, maxBright := 10, startThreshold := 4, fadeStep := 2, handoffPolicy := .ge, wrapperPresent := true }

/-- The two design-time preconditions of the source, R11(a) and (b). -/
abbrev Config.Preconditions (c : Config) : Prop :=
  c.maxBright % c.fadeStep = 0 ∧ c.startThreshold < c.maxBright

/-- The ranges R11(d), (e), (f) of the wrapper's parameters. -/
abbrev Config.RangesHold (c : Config) : Prop :=
  (1 ≤ c.fadeStep ∧ c.fadeStep ≤ 127) ∧ (1 ≤ c.maxBright ∧ c.maxBright ≤ 255) ∧ c.startThreshold ≤ 255

/-- `CFG_VALID` (R11). Without the wrapper only R11(c) applies (R14, R142). -/
abbrev Config.Valid (c : Config) : Prop :=
  (1 ≤ c.n ∧ c.n ≤ 256) ∧ (c.wrapperPresent = true → c.Preconditions ∧ c.RangesHold)

/-- `LIVE_CFG` (42_chase_controller.md R127): a value on the way up reaches the threshold below the peak. -/
abbrev Config.Live (c : Config) : Prop :=
  c.startThreshold ≤ c.maxBright - c.fadeStep

end Sys2Proof
end

