-- ==== Sys2Proof/Syntax.lean ====
section
/-! DEFINITION. The operations of the block: one constructor per row of spec/opcode_table.json
(30_encoding.md R66, R68). -/

namespace Sys2Proof

/-- One operation, an atomic step of one agent (R66). Only WRB has operands: the Chase operations work
on channel `ScanIdx` (R68). -/
inductive Instr where
  /-- One invocation of the SoftPWM Engine (40_engine_tick.md R81). -/
  | tick
  /-- `WRB ch, data`: one write of one element of the brightness array (41_brightness_port.md R100). -/
  | wrb (ch data : Byte)
  /-- Power-on (70_reset_and_hazards.md R170). -/
  | rst
  /-- Peak detection, handoff, completion and reversal of one channel (42_chase_controller.md R112). -/
  | chk
  /-- End of the end-of-strip pause (R117). -/
  | pau
  /-- Integration of one channel (R118). -/
  | int
  /-- End of the inter-frame delay (R120). -/
  | fdl
  deriving DecidableEq, Repr

end Sys2Proof
end

