-- ==== Sys2Proof/WellFormed.lean ====
section
/-! DEFINITION. The one check on an operation's operands: a channel index from outside is legal when it is below
`N` (20_memory.md R41, 30_encoding.md R68, R70). -/

namespace Sys2Proof

/-- A channel index is legal when `0 <= i < N` (R41). -/
abbrev Config.LegalChannel (c : Config) (i : Nat) : Prop := i < c.n

/-- An operation is well-formed for a configuration when its channel index, if it has one, is legal. -/
def Instr.wellFormed (c : Config) : Instr → Bool
  | .tick => true
  | .wrb ch _ => decide (c.LegalChannel ch.toNat)
  | .rst => true
  | .chk => true
  | .pau => true
  | .int => true
  | .fdl => true

end Sys2Proof
end

