-- ==== Sys2Proof/Decode.lean ====
section
/-! DEFINITION. The event word: its fields, its decoder, and after it its encoder (30_encoding.md R67 to R71). -/

namespace Sys2Proof

/-- Why bits denote no operation. Every one of them is the spec's own refusal (R70); refusing is safe. -/
inductive DecodeError where
  /-- Fewer than three bytes where a stored event word was expected (R67: one length, 24 bits). -/
  | truncated
  /-- An `op` that is none of the seven codes of R68, `0x00` among them (R70). -/
  | reservedOp (op : Byte)
  /-- A field marked 'must be 0' in R68 that is not zero (R70). -/
  | nonZeroField (op ch data : Byte)
  /-- WRB with `ch >= N` (R70). -/
  | channelOutOfRange (ch : Byte)
  deriving DecidableEq, Repr

/-- Bits 23:16 of an event word (R67). -/
def EventWord.op (w : EventWord) : Byte := w.extractLsb' 16 8

/-- Bits 15:8 of an event word (R67). -/
def EventWord.ch (w : EventWord) : Byte := w.extractLsb' 8 8

/-- Bits 7:0 of an event word (R67). -/
def EventWord.data (w : EventWord) : Byte := w.extractLsb' 0 8

/-- The event word with the three fields given (R67). -/
def eventWord (op ch data : Byte) : EventWord := op ++ ch ++ data

/-- A code whose `ch` and `data` fields must be 0 (R68). -/
def decodePlain (i : Instr) (op ch data : Byte) : Except DecodeError Instr :=
  if ch = 0 ∧ data = 0 then .ok i else .error (.nonZeroField op ch data)

/-- The operation three fields denote, by the table of R68; every other code is refused (R70). -/
def decodeFields (op ch data : Byte) : Except DecodeError Instr :=
  if op = 0x01 then decodePlain .tick op ch data
  else if op = 0x02 then .ok (.wrb ch data)
  else if op = 0x03 then decodePlain .rst op ch data
  else if op = 0x10 then decodePlain .chk op ch data
  else if op = 0x11 then decodePlain .pau op ch data
  else if op = 0x12 then decodePlain .int op ch data
  else if op = 0x13 then decodePlain .fdl op ch data
  else .error (.reservedOp op)

/-- The operation an event word denotes, before its channel index is held against `N` (log 13). -/
def decodeWord (w : EventWord) : Except DecodeError Instr :=
  decodeFields w.op w.ch w.data

/-- The operation an event word denotes in a block of configuration `c`: R70 makes WRB with `ch >= N` an
illegal word. -/
def decodeFor (c : Config) (w : EventWord) : Except DecodeError Instr :=
  match decodeWord w with
  | .ok i => if i.wellFormed c then .ok i else .error (.channelOutOfRange w.ch)
  | .error e => .error e

/-- A stored event word: the `op` byte first, then `ch`, then `data` (R67). -/
def wordBytes (w : EventWord) : List Byte := [w.op, w.ch, w.data]

/-- The operation at the front of stored bytes, and the bytes after it. -/
def decodeBytes : List Byte → Except DecodeError (Instr × List Byte)
  | op :: ch :: data :: rest =>
    match decodeFields op ch data with
    | .ok i => .ok (i, rest)
    | .error e => .error e
  | _ => .error .truncated

/-- The operation code of R68. -/
def Instr.opcode : Instr → Byte
  | .tick => 0x01
  | .wrb _ _ => 0x02
  | .rst => 0x03
  | .chk => 0x10
  | .pau => 0x11
  | .int => 0x12
  | .fdl => 0x13

/-- The event word of an operation (R68, R69). -/
def encode : Instr → EventWord
  | .wrb ch data => eventWord (Instr.opcode (.wrb ch data)) ch data
  | .tick => eventWord Instr.tick.opcode 0 0
  | .rst => eventWord Instr.rst.opcode 0 0
  | .chk => eventWord Instr.chk.opcode 0 0
  | .pau => eventWord Instr.pau.opcode 0 0
  | .int => eventWord Instr.int.opcode 0 0
  | .fdl => eventWord Instr.fdl.opcode 0 0

/-- An operation as stored bytes (R67). -/
def encodeBytes (i : Instr) : List Byte := wordBytes (encode i)

/-- The rows of spec/opcode_table.json as (match, mask) pairs, in the table's order (R68). -/
def opcodeRows : List (EventWord × EventWord) :=
  [(0x010000, 0xFFFFFF), (0x020000, 0xFF0000), (0x030000, 0xFFFFFF), (0x100000, 0xFFFFFF),
   (0x110000, 0xFFFFFF), (0x120000, 0xFFFFFF), (0x130000, 0xFFFFFF)]

/-- Whether a word matches a row: its masked bits are the row's. -/
def matchesRow (w : EventWord) (row : EventWord × EventWord) : Bool := w &&& row.2 == row.1

/-- The event word of `nbits` bits of `w`, the bits above them 0, where the opcode table numbers bit 0 as the
word's least significant bit; `none` where those bits do not fit one event word. -/
def tableWord (nbits w : Nat) : Option EventWord :=
  if w % 2 ^ nbits < 2 ^ 24 then some (BitVec.ofNat 24 (w % 2 ^ nbits)) else none

/-- The operation the decoder reads from the opcode table's bits, laid out as stored bytes. -/
def decodeTableWord (nbits w : Nat) : Option Instr :=
  match tableWord nbits w with
  | none => none
  | some word =>
    match decodeBytes (wordBytes word) with
    | .ok (i, _) => some i
    | .error _ => none

end Sys2Proof
end

