-- ==== Sys2Proof/Machine/State.lean ====
section
/-! DEFINITION. The state of the block (10_state.md R20 to R30) as plain data, its value after reset
(R34, R35, R37), and the reasons a step can stop. -/

namespace Sys2Proof.Machine

/-- `Phase` (10_state.md R29): which part of the per-channel contract runs next. -/
inductive Phase where
  /-- Steps 1 to 3 for channel `ScanIdx` are due. -/
  | check
  /-- A reversal has just been processed and the end-of-strip pause is in progress. -/
  | pause
  /-- Step 4 for channel `ScanIdx` is due. -/
  | integrate
  /-- The pass is complete and the inter-frame delay is in progress. -/
  | frameDelay
  deriving DecidableEq, Repr

/-- The whole state. The first ten fields are the ten elements of R20; the last two are the model's own
(log 1, log 3). -/
structure State where
  /-- `Brightness[0..N-1]` (R21). -/
  brightness : List Byte
  /-- `Increment[0..N-1]`, s8 bit patterns (R22). -/
  increment : List Byte
  /-- `CompareLatch[0..N-1]` (R23). -/
  compareLatch : List Byte
  /-- `Direction`: `true` is high to low (R24). -/
  direction : Bool
  /-- `TickCounter` (R25). -/
  tickCounter : Byte
  /-- `PinWord`, the pending pin-level word (R26). -/
  pinWord : PinBits
  /-- `OutPort`, the block's only output (R27). -/
  outPort : PinBits
  /-- `ScanIdx` (R28). -/
  scanIdx : Nat
  /-- `Phase` (R29). -/
  phase : Phase
  /-- `ConfigFault`: bit 0 `CF_STEP`, bit 1 `CF_THRESH`, bit 2 `CF_RANGE` (R30). -/
  configFault : BitVec 3
  /-- DESIGN CHOICE (log 1): the configuration of this block, which no operation writes (R10). -/
  cfg : Config
  /-- DESIGN CHOICE (log 3): the event words still to arrive, oldest first: the total order of
  20_memory.md R51. -/
  inbox : List EventWord
  deriving DecidableEq, Repr

/-- Why the machine stops with a fault. No rule of the spec faults (60_exceptions.md R140). -/
inductive Fault where
  /-- Raised by WRB, CHK and INT where the arrays do not have `N` elements or the channel is not below `N`:
  states the spec's types exclude and no run reaches (20_memory.md R41). Safe (log 7). -/
  | noSuchChannel (i : Nat)
  deriving DecidableEq, Repr

/-- Why an operation has no step. Every one but `notModelled` is a refusal the spec makes itself (30_encoding.md
R70, R71); refusing is safe (log 5). -/
inductive Refusal where
  /-- Raised by `exec` for an instruction that has no meaning yet; no arm answers it. Safe. -/
  | notModelled (mnemonic : String)
  /-- Raised by the fetch, and by WRB for `ch >= N`: the word denotes no operation (R70). Safe. -/
  | illegalWord (e : DecodeError)
  /-- Raised by WRB: it needs `WRAPPER_PRESENT = false` (R71, R101). Safe. -/
  | wrapperPresent
  /-- Raised by CHK, PAU, INT and FDL: they need `WRAPPER_PRESENT = true` (R71). Safe. -/
  | wrapperAbsent
  /-- Raised by CHK, PAU, INT and FDL: they need `ConfigFault = 0` (R71, 60_exceptions.md R142). Safe. -/
  | configFaulted
  /-- Raised by CHK, PAU, INT and FDL: each needs its own `Phase` (R71). Safe. -/
  | wrongPhase
  /-- Raised by the pseudo-operation FRAME: legal only when `ScanIdx = 0` and `Phase = CHECK` (R73). Safe. -/
  | frameNotAtStart
  deriving DecidableEq, Repr

/-- The outcome of an operation or a step. -/
abbrev Result := Host.Outcome State Fault Refusal

/-- The state after reset (R37) of a block of configuration CFG-A (DESIGN CHOICE, log 2), no event waiting (log 3).
The values of R35 are the spec's decided ones, not the arbitrary ones R36 allows (DESIGN CHOICE, log 9).
`State.resetFor` in Machine/Ops.lean is the reset state of every other configuration. -/
def State.reset : State :=
  { brightness := [0, 0, 0]
    increment := [2, 0, 0]
    compareLatch := [0, 0, 0]
    direction := false
    tickCounter := 0
    pinWord := [false, false, false]
    outPort := [false, false, false]
    scanIdx := 0
    phase := .check
    configFault := 0
    cfg := Config.cfgA
    inbox := [] }

end Sys2Proof.Machine
end

