-- ==== Sys2Proof/Machine/Operands.lean ====
section
/-! DEFINITION. The operands of the operations: the constants formed from the configuration, the conversions
between bytes and integers, and the one addition (30_encoding.md R60, R61, R65; 42_chase_controller.md R119). -/

namespace Sys2Proof.Machine

/-- `zext_8`: a u8 as the natural 0..255 it denotes (00_scope.md notation). -/
def zext8 (v : Byte) : Int := v.toNat

/-- `sext_8`: an s8 bit pattern as the integer -128..127 it denotes (00_scope.md notation, R61). -/
def sext8 (v : Byte) : Int := v.toInt

/-- `trunc_8`: an integer modulo 256 as a u8 (00_scope.md notation). -/
def trunc8 (x : Int) : Byte := BitVec.ofInt 8 x

/-- `+S` as an s8 (R65). Where `S > 127` there is none and the pattern is free (log 8). -/
def plusStep (c : Config) : Byte :=
  if c.fadeStep ≤ 127 then BitVec.ofNat 8 c.fadeStep else Config.seedOutOfRange c.fadeStep

/-- `-S` as an s8, bit pattern `256 - S` (R61, R65). -/
def minusStep (c : Config) : Byte := -plusStep c

/-- The one addition of the block: u8 zero-extended, s8 sign-extended, exact sum, truncated to 8 bits
(R65, R119). -/
def integrate (b inc : Byte) : Byte := trunc8 (zext8 b + sext8 inc)

/-- The tick counter's successor, `trunc_8(TickCounter + 1)` (R65, R83). -/
def nextTick (t : Byte) : Byte := trunc8 (zext8 t + 1)

/-- `Brightness[i] = MAX_BRIGHT`, unsigned (R60, R113). -/
def atPeak (c : Config) (b : Byte) : Bool := b.toNat == c.maxBright

/-- The brightness test of the handoff, unsigned, by the policy (00_scope.md R12, R114). -/
def atThreshold (c : Config) (b : Byte) : Bool :=
  match c.handoffPolicy with
  | .ge => decide (c.startThreshold ≤ b.toNat)
  | .eq => b.toNat == c.startThreshold

/-- Fading up: the increment is positive (R61). -/
def fadingUp (inc : Byte) : Bool := decide (0 < sext8 inc)

/-- Fading down: the increment is negative (R61). -/
def fadingDown (inc : Byte) : Bool := decide (sext8 inc < 0)

/-- `ones(N)`, all channels high (R63, R65). -/
def onesN (n : Nat) : PinBits := List.replicate n true

/-- `clear_bit(w, i)` (00_scope.md notation). -/
def clearBit (w : PinBits) (i : Nat) : PinBits := w.set i false

/-- The two-bit code of a phase (R64). -/
def Phase.code : Phase → BitVec 2
  | .check => 0
  | .pause => 1
  | .integrate => 2
  | .frameDelay => 3

end Sys2Proof.Machine
end

