-- ==== Sys2Proof/Machine/Flags.lean ====
section
/-! DEFINITION. The flags of the block: the three bits of `ConfigFault` computed from a configuration (10_state.md R30,
60_exceptions.md R141), and what `Direction` decides: the next channel of a handoff and the boundary channel
(42_chase_controller.md R114, R115). -/

namespace Sys2Proof.Machine

/-- `CF_STEP`: `MAX_BRIGHT mod S != 0`; not evaluated, and 0, when `S = 0` (R30, R141); not checked without
the wrapper (R142). -/
def cfStep (c : Config) : Bool :=
  c.wrapperPresent && c.fadeStep != 0 && c.maxBright % c.fadeStep != 0

/-- `CF_THRESH`: `START_THRESHOLD >= MAX_BRIGHT` (R30, R141); not checked without the wrapper (R142). -/
def cfThresh (c : Config) : Bool :=
  c.wrapperPresent && decide (c.maxBright ≤ c.startThreshold)

/-- The causes of `CF_RANGE` among the wrapper's parameters (R141). -/
def wrapperRangeFails (c : Config) : Bool :=
  c.fadeStep == 0 || decide (127 < c.fadeStep) || c.maxBright == 0 || decide (255 < c.maxBright)
    || decide (255 < c.startThreshold)

/-- `CF_RANGE` (R30, R141); without the wrapper only `N = 0` and `N > 256` are checked (R142). -/
def cfRange (c : Config) : Bool :=
  c.n == 0 || decide (256 < c.n) || (c.wrapperPresent && wrapperRangeFails c)

/-- The `ConfigFault` mask of a configuration: bit 0 `CF_STEP`, bit 1 `CF_THRESH`, bit 2 `CF_RANGE`, all causes
that hold (R30, R141). -/
def faultMask (c : Config) : BitVec 3 :=
  BitVec.ofBool (cfRange c) ++ BitVec.ofBool (cfThresh c) ++ BitVec.ofBool (cfStep c)

/-- The next channel in the sweep direction, if there is one: `i+1` going low to high when `i < N-1`, `i-1` going
high to low when `i > 0` (R114). -/
def nextChannel (c : Config) (direction : Bool) (i : Nat) : Option Nat :=
  match direction with
  | false => if i + 1 < c.n then some (i + 1) else none
  | true => if 0 < i then some (i - 1) else none

/-- The boundary channel, 'the last channel in the current sweep direction': `N-1` going low to high, 0 going
high to low (R115). -/
def isBoundary (c : Config) (direction : Bool) (i : Nat) : Bool :=
  match direction with
  | false => i + 1 == c.n
  | true => i == 0

end Sys2Proof.Machine
end

