-- ==== Sys2Proof/Machine/Ops.lean ====
section
/-! DEFINITION. The named operations over the state that the meanings are written with: access to the channel
arrays, the engine's sub-steps, reset and the one exception, the enabling conditions, and the event fetch. -/

namespace Sys2Proof.Machine

/-! ### The per-channel arrays (20_memory.md R40, R41, R49) -/

/-- `Brightness[i]`. -/
def State.readBrightness (s : State) (i : Nat) : Byte := s.brightness.getD i 0

/-- `Increment[i]`. -/
def State.readIncrement (s : State) (i : Nat) : Byte := s.increment.getD i 0

/-- `Brightness[i] <- v`, all 8 bits at once (R45). -/
def State.writeBrightness (s : State) (i : Nat) (v : Byte) : State :=
  { s with brightness := s.brightness.set i v }

/-- `Increment[i] <- v`. -/
def State.writeIncrement (s : State) (i : Nat) (v : Byte) : State :=
  { s with increment := s.increment.set i v }

/-- Channel `i` exists: its index is legal (R41) and both main-context arrays have their `N` elements. -/
def State.hasChannel (s : State) (i : Nat) : Bool :=
  decide (s.cfg.LegalChannel i) && s.brightness.length == s.cfg.n && s.increment.length == s.cfg.n

/-- Go on where channel `i` exists; a channel that does not exist faults (log 7). -/
def onChannel (s : State) (i : Nat) (k : Result) : Result :=
  if s.hasChannel i then k else .fault (.noSuchChannel i)

/-! ### The sequencing registers (10_state.md R28, R29) -/

/-- `Phase <- p`. -/
def State.setPhase (s : State) (p : Phase) : State := { s with phase := p }

/-- `ScanIdx <- k; Phase <- p`. -/
def State.moveTo (s : State) (k : Nat) (p : Phase) : State := { s with scanIdx := k, phase := p }

/-- `Direction <- not Direction` (R24). -/
def State.flipDirection (s : State) : State := { s with direction := !s.direction }

/-! ### The engine's sub-steps (40_engine_tick.md R82 to R85) -/

/-- Step 1, DRIVE: `OutPort <- PinWord` (R82). -/
def State.drive (s : State) : State := { s with outPort := s.pinWord }

/-- Step 2, COUNT: `TickCounter <- trunc_8(TickCounter + 1)` (R83). -/
def State.count (s : State) : State := { s with tickCounter := nextTick s.tickCounter }

/-- SNAPSHOT and RELOAD, if and only if the counter has just wrapped to zero: every `CompareLatch[i] <-
Brightness[i]` at once, then `PinWord <- ones(N)` (R84). -/
def State.snapshotAtWrap (s : State) : State :=
  if s.tickCounter = 0 then { s with compareLatch := s.brightness, pinWord := onesN s.cfg.n } else s

/-- The N equality comparators against the one counter, each gating its own bit (R85, R91). -/
def clearMatches (latch : List Byte) (t : Byte) (w : PinBits) : PinBits :=
  w.mapIdx fun i bit => bit && latch[i]? != some t

/-- Step 3, COMPARE (R85). -/
def State.compare (s : State) : State :=
  { s with pinWord := clearMatches s.compareLatch s.tickCounter s.pinWord }

/-- Step 3 as R81 writes it: the loop over the channels, each match clearing its bit of the pin word. -/
def clearMatchesLoop (n : Nat) (latch : List Byte) (t : Byte) (w : PinBits) : PinBits :=
  (List.range n).foldl (fun acc i => if latch[i]? = some t then clearBit acc i else acc) w

/-- One invocation of the engine: drive, count, snapshot and reload, compare, in that order (R81, R86). It is
total (R87). This is also the block's whole interrupt: entry saves nothing and return restores nothing
(60_exceptions.md R148, R149). -/
def engineTick (s : State) : State := s.drive.count.snapshotAtWrap.compare

/-! ### Reset and the one exception (70_reset_and_hazards.md R170) -/

/-- `raise ConfigFault(mask)`: the block's one exception (WRB of a bare engine does not heed it: log 19). It sets the `ConfigFault` register and nothing else
(00_scope.md notation, 60_exceptions.md R141); a non-zero mask halts the main context from here on, by
`chaseStop`, and no operation returns from it but another reset (R142). -/
def State.raiseConfigFault (s : State) (mask : BitVec 3) : State := { s with configFault := mask }

/-- The reset values of R34, R35 and R37 before the configuration is validated. `N = 0` leaves no `Increment[0]`
to seed and the line is skipped (R170). -/
def State.cleared (c : Config) (inbox : List EventWord) : State :=
  { brightness := List.replicate c.n 0
    increment := (List.replicate c.n 0).set 0 (plusStep c)
    compareLatch := List.replicate c.n 0
    direction := false
    tickCounter := 0
    pinWord := List.replicate c.n false
    outPort := List.replicate c.n false
    scanIdx := 0
    phase := .check
    configFault := 0
    cfg := c
    inbox := inbox }

/-- The state after reset, one function of the configuration (R173) and the events still to arrive (log 15): the
cleared state with the fault mask of the configuration raised. -/
def State.resetFor (c : Config) (inbox : List EventWord) : State :=
  (State.cleared c inbox).raiseConfigFault (faultMask c)

/-! ### Enabling conditions (30_encoding.md R71) -/

/-- Why a Chase operation of phase `p` is not enabled, if it is not: it needs the wrapper, `ConfigFault = 0` and
its `Phase` (R71, R142). -/
def chaseStop (p : Phase) (s : State) : Option Refusal :=
  if s.cfg.wrapperPresent = false then some .wrapperAbsent
  else if s.configFault ≠ 0 then some .configFaulted
  else if s.phase ≠ p then some .wrongPhase
  else none

/-- Why WRB of channel `ch` is not enabled, if it is not: it needs `ch < N` and `WRAPPER_PRESENT = false`
(30_encoding.md R71, 41_brightness_port.md R100, R101). DESIGN CHOICE (log 19), unsafe: `ConfigFault` is no condition,
so a bare engine with `N > 256`, halted at RST, still takes WRB and its outputs can go high, although
60_exceptions.md R142 and 70_reset_and_hazards.md R188 say of a halted block that its outputs stay low for ever. -/
def portStop (ch : Byte) (s : State) : Option Refusal :=
  if ¬ s.cfg.LegalChannel ch.toNat then some (.illegalWord (.channelOutOfRange ch))
  else if s.cfg.wrapperPresent = true then some .wrapperPresent
  else none

/-- Refuse where there is a reason to; go on where there is none. -/
def unlessStopped (stop : Option Refusal) (k : Result) : Result :=
  match stop with
  | some r => .refused r
  | none => k

/-! ### The event fetch (20_memory.md R51; log 3) -/

/-- The oldest event word still to arrive, and the state without it. -/
def State.fetchEvent (s : State) : Option (EventWord × State) :=
  match s.inbox with
  | [] => none
  | w :: rest => some (w, { s with inbox := rest })

/-- An event word arrives before all others. -/
def State.pushEvent (s : State) (w : EventWord) : State := { s with inbox := w :: s.inbox }

/-- Between events nothing happens: all state holds (40_engine_tick.md R80; DESIGN CHOICE, log 4). -/
def State.hold (s : State) : State := s

/-! ### Outcomes -/

/-- Go on from a next state; a fault or a refusal ends there. -/
def andThen (r : Result) (k : State → Result) : Result :=
  match r with
  | .next s => k s
  | .fault f => .fault f
  | .refused x => .refused x

/-- The next state of an outcome, if it is one. -/
def nextState? : Result → Option State
  | .next s => some s
  | .fault _ => none
  | .refused _ => none

/-- The refusal of an outcome, if it is one. -/
def refusal? : Result → Option Refusal
  | .next _ => none
  | .fault _ => none
  | .refused r => some r

end Sys2Proof.Machine
end

