-- ==== Sys2Proof/Machine/Chase.lean ====
section
/-! DEFINITION. The Chase Controller's operations, CHK, PAU, INT and FDL (42_chase_controller.md). -/

namespace Sys2Proof.Machine

/-- Step 1 of CHK, peak detection: at `MAX_BRIGHT` exactly, `Increment[i] <- -S` whatever it held (R113). -/
def peakStep (i : Nat) (s : State) : State :=
  if atPeak s.cfg (s.readBrightness i) then s.writeIncrement i (minusStep s.cfg) else s

/-- The test of the handoff: at the threshold while still fading up (R114). -/
def handsOff (i : Nat) (s : State) : Bool :=
  atThreshold s.cfg (s.readBrightness i) && fadingUp (s.readIncrement i)

/-- Step 2 of CHK, handoff: `Increment[next] <- +S` where there is a next channel (R114). -/
def handoffStep (i : Nat) (s : State) : State :=
  if handsOff i s then
    match nextChannel s.cfg s.direction i with
    | some k => s.writeIncrement k (plusStep s.cfg)
    | none => s
  else s

/-- The test of completion: brightness exactly 0 while fading down (R115). -/
def completes (i : Nat) (s : State) : Bool :=
  s.readBrightness i == 0 && fadingDown (s.readIncrement i)

/-- A reversal is processed: channel `i` completes and is the boundary channel, by `Direction` as it is before
the flip (R115). -/
def reverses (i : Nat) (s : State) : Bool :=
  completes i s && isBoundary s.cfg s.direction i

/-- Step 3 of CHK, completion: `Increment[i] <- 0`; at a reversal `Direction` is inverted and the boundary
channel re-seeded with `+S` over the 0 just written (R115). -/
def completionStep (i : Nat) (s : State) : State :=
  if reverses i s then ((s.writeIncrement i 0).flipDirection).writeIncrement i (plusStep s.cfg)
  else if completes i s then s.writeIncrement i 0
  else s

/-- Steps 1 to 3 in order, each seeing the writes of the one before, and the phase that follows (R112). -/
def checkChannel (i : Nat) (s : State) : State :=
  let s2 := handoffStep i (peakStep i s)
  (completionStep i s2).setPhase (if reverses i s2 then .pause else .integrate)

/-- CHK (R112) for channel `ScanIdx`. -/
def execChk (s : State) : Result :=
  unlessStopped (chaseStop .check s) (onChannel s s.scanIdx (.next (checkChannel s.scanIdx s)))

/-- PAU (R117): the end of the end-of-strip pause, `Phase <- INTEGRATE`. -/
def execPau (s : State) : Result :=
  unlessStopped (chaseStop .pause s) (.next (s.setPhase .integrate))

/-- Where the scan goes after channel `i`: to the inter-frame delay after channel `N-1`, else to the next
channel's checks (R111, R118). -/
def advanceScan (i : Nat) (s : State) : State :=
  if i + 1 = s.cfg.n then s.moveTo 0 .frameDelay else s.moveTo (i + 1) .check

/-- Step 4, integration of channel `i`, then the scan moves on (R118). -/
def integrateChannel (i : Nat) (s : State) : State :=
  advanceScan i (s.writeBrightness i (integrate (s.readBrightness i) (s.readIncrement i)))

/-- INT (R118) for channel `ScanIdx`. -/
def execInt (s : State) : Result :=
  unlessStopped (chaseStop .integrate s) (onChannel s s.scanIdx (.next (integrateChannel s.scanIdx s)))

/-- FDL (R120): the end of the inter-frame delay, `Phase <- CHECK`. -/
def execFdl (s : State) : Result :=
  unlessStopped (chaseStop .frameDelay s) (.next (s.setPhase .check))

end Sys2Proof.Machine
end

