-- ==== Sys2Proof/Machine/Engine.lean ====
section
/-! DEFINITION. The SoftPWM Engine's operation, TICK (40_engine_tick.md). -/

namespace Sys2Proof.Machine

/-- TICK (R81): always enabled, one invocation of the engine. -/
def execTick (s : State) : Result := .next (engineTick s)

end Sys2Proof.Machine
end

