-- ==== Sys2Proof/Machine/Port.lean ====
section
/-! DEFINITION. The brightness latch port's operation, WRB (41_brightness_port.md). -/

namespace Sys2Proof.Machine

/-- WRB `ch, data` (R100): `Brightness[ch] <- data`, any u8 (R103); without the wrapper only (R101),
and with `ConfigFault != 0` too (log 19, DESIGN CHOICE). -/
def execWrb (ch data : Byte) (s : State) : Result :=
  unlessStopped (portStop ch s) (onChannel s ch.toNat (.next (s.writeBrightness ch.toNat data)))

end Sys2Proof.Machine
end

