-- ==== Sys2Proof/Machine/Reset.lean ====
section
/-! DEFINITION. The reset operation, RST (70_reset_and_hazards.md). -/

namespace Sys2Proof.Machine

/-- RST (R170): always enabled, in every state; every element takes its reset value and the configuration's fault
mask is raised. The configuration does not change (R10), nor do the events still to arrive (log 15). -/
def execRst (s : State) : Result := .next (State.resetFor s.cfg s.inbox)

end Sys2Proof.Machine
end

