-- ==== Sys2Proof/Machine/Dispatch.lean ====
section
/-! DEFINITION. One arm per operation (30_encoding.md R66). -/

namespace Sys2Proof.Machine

def exec (i : Instr) (s : State) : Host.Outcome State Fault Refusal :=
  match i with
  | .tick => Sys2Proof.Machine.execTick s
  | .wrb ch data => Sys2Proof.Machine.execWrb ch data s
  | .rst => Sys2Proof.Machine.execRst s
  | .chk => Sys2Proof.Machine.execChk s
  | .pau => Sys2Proof.Machine.execPau s
  | .int => Sys2Proof.Machine.execInt s
  | .fdl => Sys2Proof.Machine.execFdl s

end Sys2Proof.Machine
end

