-- ==== Sys2Proof/Machine/Step.lean ====
section
/-! DEFINITION. One step: the oldest event word arrives and its operation runs (20_memory.md R51; log 3). -/

namespace Sys2Proof.Machine

/-- One step. No event: all state holds (log 4). A word that denotes no operation is refused (30_encoding.md R70). -/
def step (s : State) : Host.Outcome State Fault Refusal :=
  match s.fetchEvent with
  | none => .next s.hold
  | some (w, t) =>
    match decodeFor t.cfg w with
    | .ok i => exec i t
    | .error e => .refused (.illegalWord e)

/-- The state with the event word of the opcode table's bits arriving next. Bits that fit no event word arrive as
the reserved word 0, which is refused (R70). -/
def State.withFetchWord (s : State) (nbits w : Nat) : State :=
  s.pushEvent ((tableWord nbits w).getD 0)

end Sys2Proof.Machine
end

