-- ==== Sys2Proof/Machine/Trace.lean ====
section
/-! DEFINITION. Traces: finite sequences of operations, and the pseudo-operations that abbreviate them (00_scope.md
notation, 30_encoding.md R73). A trace stops at the first operation that is refused (log 5). -/

namespace Sys2Proof.Machine

/-- A finite sequence of operations applied in order. -/
def runOps : List Instr → State → Result
  | [], s => .next s
  | i :: is, s => andThen (exec i s) (runOps is)

/-- `n` times the same. -/
def repeatRun (k : State → Result) : Nat → State → Result
  | 0, s => .next s
  | n + 1, s => andThen (k s) (repeatRun k n)

/-- `TICKS n` (R73). -/
def runTicks (n : Nat) (s : State) : Result := runOps (List.replicate n .tick) s

/-- `CYCLE` (R73): 256 TICKs. -/
def runCycle (s : State) : Result := runTicks 256 s

/-- The main-context operation that belongs to a phase (42_chase_controller.md R111, R125). -/
def mainOp : Phase → Instr
  | .check => .chk
  | .pause => .pau
  | .integrate => .int
  | .frameDelay => .fdl

/-- `MAIN` (R73): the one main-context operation enabled in the state. -/
def runMain (s : State) : Result := exec (mainOp s.phase) s

/-- PAU if and only if CHK left `Phase = PAUSE` (R73). -/
def pauseIfDue (s : State) : Result := if s.phase = .pause then exec .pau s else .next s

/-- `CHSTEP` (R73): CHK, PAU if a reversal was processed, INT: the whole per-channel contract. -/
def runChstep (s : State) : Result := andThen (andThen (exec .chk s) pauseIfDue) (exec .int)

/-- `FRAME` (R73): CHSTEP `N` times, then FDL; legal only when `ScanIdx = 0` and `Phase = CHECK`. -/
def runFrame (s : State) : Result :=
  if s.scanIdx = 0 ∧ s.phase = .check then andThen (repeatRun runChstep s.cfg.n s) (exec .fdl)
  else .refused .frameNotAtStart

/-- `FRAMES n` (R73). -/
def runFrames (n : Nat) (s : State) : Result := repeatRun runFrame n s

/-- One item of a trace: an operation or a pseudo-operation (R72, R73). -/
inductive TraceItem where
  | op (i : Instr)
  | ticks (n : Nat)
  | cycle
  | chstep
  | frame
  | frames (n : Nat)
  | main
  deriving DecidableEq, Repr

/-- What an item of a trace does. -/
def runItem : TraceItem → State → Result
  | .op i => exec i
  | .ticks n => runTicks n
  | .cycle => runCycle
  | .chstep => runChstep
  | .frame => runFrame
  | .frames n => runFrames n
  | .main => runMain

/-- A trace with pseudo-operations, applied in order. -/
def runTrace : List TraceItem → State → Result
  | [], s => .next s
  | x :: xs, s => andThen (runItem x s) (runTrace xs)

/-- The event words of a trace of operations, in order: what arrives when it is applied (R68, R72). -/
def eventWords (is : List Instr) : List EventWord := is.map encode

end Sys2Proof.Machine
end

