-- ==== Sys2Proof/Machine/TraceText.lean ====
section
/-! DEFINITION. The trace text of 30_encoding.md R72 and R73, read into trace items. What R72 leaves open of the
grammar (blanks, empty items, the letters of hexadecimal digits) is log 14. -/

namespace Sys2Proof.Machine

/-- The value of a hexadecimal digit, either case. -/
def hexDigit? (c : Char) : Option Nat :=
  let v := c.toNat
  if 48 ≤ v ∧ v ≤ 57 then some (v - 48)
  else if 97 ≤ v ∧ v ≤ 102 then some (v - 87)
  else if 65 ≤ v ∧ v ≤ 70 then some (v - 55)
  else none

/-- Digits of a base, most significant first, after the value read so far. -/
def digits? (base : Nat) : Nat → List Char → Option Nat
  | acc, [] => some acc
  | acc, c :: cs =>
    match hexDigit? c with
    | some d => if d < base then digits? base (acc * base + d) cs else none
    | none => none

/-- A decimal or `0x` hexadecimal number (R72). -/
def number? : List Char → Option Nat
  | [] => none
  | '0' :: 'x' :: c :: cs => digits? 16 0 (c :: cs)
  | c :: cs => digits? 10 0 (c :: cs)

/-- A number that fits a u8 field (R67). -/
def byte? (cs : List Char) : Option Byte :=
  match number? cs with
  | some v => if v < 256 then some (BitVec.ofNat 8 v) else none
  | none => none

/-- The text up to the first character that satisfies `stop`, and what follows that character: pieces of a text
between separators. -/
def splitOn (stop : Char → Bool) : List Char → List (List Char)
  | [] => [[]]
  | c :: cs =>
    if stop c then [] :: splitOn stop cs
    else
      match splitOn stop cs with
      | [] => [[c]]
      | p :: ps => (c :: p) :: ps

/-- A comment runs from `#` to the end of the line (R72). -/
def dropComment (line : List Char) : List Char := line.takeWhile (· != '#')

/-- One operation per line or separated by `;` (R72). -/
def splitItems (text : List Char) : List (List Char) :=
  ((splitOn (· == '\n') text).map dropComment).flatMap (splitOn (· == ';'))

/-- What may stand between the words of one item. -/
def isBlank (c : Char) : Bool := c == ' ' || c == '\t' || c == '\r'

/-- The words of one item, its comma a word of its own. -/
def words (item : List Char) : List (List Char) :=
  (splitOn isBlank (item.flatMap fun c => if c == ',' then [' ', ',', ' '] else [c])).filter (· != [])

/-- An item from its words: the upper-case mnemonics of R66 and R73; WRB takes two numbers, TICKS and FRAMES one. -/
def item? : List (List Char) → Option TraceItem
  | [['T', 'I', 'C', 'K']] => some (.op .tick)
  | [['W', 'R', 'B'], ch, [','], data] =>
    match byte? ch, byte? data with
    | some c, some d => some (.op (.wrb c d))
    | _, _ => none
  | [['R', 'S', 'T']] => some (.op .rst)
  | [['C', 'H', 'K']] => some (.op .chk)
  | [['P', 'A', 'U']] => some (.op .pau)
  | [['I', 'N', 'T']] => some (.op .int)
  | [['F', 'D', 'L']] => some (.op .fdl)
  | [['T', 'I', 'C', 'K', 'S'], n] => (number? n).map .ticks
  | [['C', 'Y', 'C', 'L', 'E']] => some .cycle
  | [['C', 'H', 'S', 'T', 'E', 'P']] => some .chstep
  | [['F', 'R', 'A', 'M', 'E']] => some .frame
  | [['F', 'R', 'A', 'M', 'E', 'S'], n] => (number? n).map .frames
  | [['M', 'A', 'I', 'N']] => some .main
  | _ => none

/-- The items of a trace text; empty items are skipped. -/
def parseItems : List (List Char) → Option (List TraceItem)
  | [] => some []
  | t :: ts =>
    match words t, parseItems ts with
    | [], some xs => some xs
    | w :: ws, some xs => (item? (w :: ws)).map (· :: xs)
    | _, none => none

/-- A trace text (R72, R73); `none` where it is not one. -/
def parseTrace (text : List Char) : Option (List TraceItem) := parseItems (splitItems text)

end Sys2Proof.Machine
end

