-- ==== Sys2Proof/Safety.lean ====
section
/-! DEFINITION. The terms the claims are made in: the typing of the state (10_state.md R20), the laws of the
engine (40_engine_tick.md R88, R89), the brightness invariant (42_chase_controller.md R126), the rights of the
two contexts (60_exceptions.md R151), and the observation of a run (70_reset_and_hazards.md R188). -/

namespace Sys2Proof.Machine

/-- The state is of the types R20 gives its elements: every array and word has `N` elements, `ScanIdx` is below
`N`, the inter-frame delay finds it at 0 (R111, R120), and `ConfigFault` is the mask of the configuration (R30).
Every run from reset stays in such states. -/
abbrev State.Coherent (s : State) : Prop :=
  s.brightness.length = s.cfg.n ∧ s.increment.length = s.cfg.n ∧ s.compareLatch.length = s.cfg.n
    ∧ s.pinWord.length = s.cfg.n ∧ s.outPort.length = s.cfg.n
    ∧ (s.scanIdx < s.cfg.n ∨ (s.cfg.n = 0 ∧ s.scanIdx = 0))
    ∧ (s.phase = .frameDelay → s.scanIdx = 0)
    ∧ s.configFault = faultMask s.cfg

/-- The closed form of the pin word (R88): channel `i` is set exactly when its latch is above the counter. -/
abbrev State.PinLaw (s : State) : Prop :=
  s.pinWord = s.compareLatch.map fun v => decide (s.tickCounter.toNat < v.toNat)

/-- The output waveform (R89): channel `i` is high in the slots 1 to `V_i`. -/
abbrev State.PortLaw (s : State) : Prop :=
  s.outPort = s.compareLatch.map fun v => decide (1 ≤ s.tickCounter.toNat ∧ s.tickCounter.toNat ≤ v.toNat)

/-- The engine is in step with its latches: R88 and R89 hold. -/
abbrev State.EngineLaw (s : State) : Prop := s.Coherent ∧ s.PinLaw ∧ s.PortLaw

/-- The invariant of R126's argument: every brightness is a multiple of `S` in `[0, MAX_BRIGHT]`, every increment
is one of `0, +S, -S`, and once CHK has run for channel `ScanIdx` a peak fades down and a zero does not. -/
abbrev State.OnGrid (s : State) : Prop :=
  (∀ b ∈ s.brightness, b.toNat % s.cfg.fadeStep = 0 ∧ b.toNat ≤ s.cfg.maxBright)
    ∧ (∀ v ∈ s.increment, v = 0 ∨ v = plusStep s.cfg ∨ v = minusStep s.cfg)
    ∧ ((s.phase = .integrate ∨ s.phase = .pause) →
        ((s.readBrightness s.scanIdx).toNat = s.cfg.maxBright → s.readIncrement s.scanIdx = minusStep s.cfg)
        ∧ ((s.readBrightness s.scanIdx).toNat = 0 → s.readIncrement s.scanIdx ≠ minusStep s.cfg))

/-- R126 under its premises: a valid configuration with the wrapper present. -/
abbrev State.BrightnessLaw (s : State) : Prop :=
  s.cfg.wrapperPresent = true → s.cfg.Valid → s.OnGrid

/-- The Chase Controller is running: the wrapper is present and no configuration fault halts it (R71, R142). -/
abbrev State.Running (s : State) : Prop :=
  s.cfg.wrapperPresent = true ∧ s.configFault = 0

/-- Who takes a step (30_encoding.md R66, 20_memory.md R50). -/
inductive Agent where
  /-- The interrupt context: the engine. -/
  | interrupt
  /-- The main context: the Chase Controller, or the environment in its place on the write port. -/
  | main
  /-- The outside: power-on. -/
  | outside
  deriving DecidableEq, Repr

/-- The agent of an operation (R66). -/
def Instr.agent : Instr → Agent
  | .tick => .interrupt
  | .wrb _ _ => .main
  | .rst => .outside
  | .chk => .main
  | .pau => .main
  | .int => .main
  | .fdl => .main

/-- An event word is illegal (30_encoding.md R70): its `op` is none of the seven codes, or a field marked 'must be
0' is not zero, or it is a WRB with `ch >= N`. -/
abbrev IllegalWord (c : Config) (w : EventWord) : Prop :=
  w.op ∉ [0x01, 0x02, 0x03, 0x10, 0x11, 0x12, 0x13]
    ∨ (w.op ≠ 0x02 ∧ (w.ch ≠ 0 ∨ w.data ≠ 0))
    ∨ (w.op = 0x02 ∧ c.n ≤ w.ch.toNat)

/-- The observation of a trace: the value of `OutPort` after each of its TICKs, in order (R188). -/
def portSamples : List Instr → State → List PinBits
  | [], _ => []
  | i :: is, s =>
    match exec i s with
    | .next t => if i = .tick then t.outPort :: portSamples is t else portSamples is t
    | .fault _ => []
    | .refused _ => []

/-- In how many of the observed slots channel `i` is high (R90). -/
def highSlots (i : Nat) (samples : List PinBits) : Nat :=
  samples.countP fun w => w.getD i false

end Sys2Proof.Machine
end

