-- ==== Sys2Proof/Certificates/Slice0/Obligations.lean ====
section
/-! DEFINITION. The statements for the provers. Each docstring names the rules of spec/ it formalises; where a
statement rests on a choice of this model, its docstring says so and names the log entry. -/

open Sys2Proof Sys2Proof.Machine

/-! ### The event word -/

/-- 30_encoding.md R67 to R69: the encoder and the decoder agree on every operation and every operand, as a word, as
stored bytes, and in every configuration the operation is well-formed for. -/
def Obligations.DecodeEncodeAgree : Prop :=
  ∀ (i : Instr) (rest : List Byte) (c : Config),
    decodeWord (encode i) = .ok i
    ∧ decodeBytes (encodeBytes i ++ rest) = .ok (i, rest)
    ∧ (i.wellFormed c = true → decodeFor c (encode i) = .ok i)

/-- 30_encoding.md R67, R68: a word that denotes an operation is that operation's own encoding; no two words denote
one operation and no bit of a word is dropped. -/
def Obligations.DecodedWordReencodes : Prop :=
  ∀ (w : EventWord) (i : Instr), decodeWord w = .ok i → encode i = w

/-- 30_encoding.md R70: the illegal words are exactly those the rule lists, and an illegal word is refused. -/
def Obligations.IllegalWordsAreRefused : Prop :=
  (∀ (c : Config) (w : EventWord), (∃ e, decodeFor c w = .error e) ↔ IllegalWord c w)
  ∧ ∀ (s : State) (w : EventWord) (rest : List EventWord), s.inbox = w :: rest → IllegalWord s.cfg w →
      ∃ e, step s = .refused (.illegalWord e)

/-- 30_encoding.md R68: the decoder accepts a word exactly when a row of the opcode table matches it under its mask,
and never more than one row does. -/
def Obligations.OpcodeRowsDecideDecoding : Prop :=
  ∀ w : EventWord,
    ((∃ i, decodeWord w = .ok i) ↔ ∃ row ∈ opcodeRows, matchesRow w row = true)
    ∧ (opcodeRows.filter (matchesRow w)).length ≤ 1

/-- 30_encoding.md R68 and 95_test_vectors.md V8: event words written out from the table and the operations they
denote. -/
def Obligations.SampleEventWordsDecode : Prop :=
  decodeWord 0x010000 = .ok .tick ∧ decodeWord 0x020280 = .ok (.wrb 2 128)
  ∧ decodeWord 0x0200FF = .ok (.wrb 0 255) ∧ decodeWord 0x030000 = .ok .rst
  ∧ decodeWord 0x100000 = .ok .chk ∧ decodeWord 0x110000 = .ok .pau
  ∧ decodeWord 0x120000 = .ok .int ∧ decodeWord 0x130000 = .ok .fdl
  ∧ decodeFor { Config.cfgA with n := 7 } 0x020700 = .error (.channelOutOfRange 7)
  ∧ decodeFor { Config.cfgA with n := 7 } 0x020600 = .ok (.wrb 6 0)

/-! ### The step -/

/-- 20_memory.md R51 with log 3: when the oldest event word denotes the well-formed operation `i`, a step is `exec` of
`i` at the state without that word, and nothing more. -/
def Obligations.StepRunsDecodedEvent : Prop :=
  ∀ (s : State) (w : EventWord) (rest : List EventWord) (i : Instr),
    s.inbox = w :: rest → decodeWord w = .ok i → i.wellFormed s.cfg = true →
    step s = exec i { s with inbox := rest }

/-- The model's choice (log 4), after 40_engine_tick.md R80 'The engine does nothing between invocations: all its
state holds': while no event waits, a step changes nothing. -/
def Obligations.IdleStepHolds : Prop :=
  ∀ s : State, s.inbox = [] → step s = .next s

/-- The model's interface (log 3): bits of the opcode table placed as the next event run as the operation the decoder
reads from them. -/
def Obligations.PlacedWordRunsNext : Prop :=
  ∀ (s : State) (nbits w : Nat) (i : Instr),
    decodeTableWord nbits w = some i → i.wellFormed s.cfg = true →
    step (s.withFetchWord nbits w) = exec i s

/-- 20_memory.md R51 with log 3: a run of the machine over the encoded events of a trace, whatever arrives after them,
is the trace's operations applied in order; the events still to arrive neither shape nor are changed by them. -/
def Obligations.RunOfEncodedEventsComposes : Prop :=
  ∀ (ops : List Instr) (s : State) (rest : List EventWord),
    (∀ i ∈ ops, i.wellFormed s.cfg = true) →
    Host.Core.run Sys2Proof.core ops.length { s with inbox := eventWords ops ++ rest }
      = runOps ops { s with inbox := rest }

/-! ### The SoftPWM Engine: TICK -/

/-- 40_engine_tick.md R81, R84, R85: TICK completes in every state. The port takes the old pin word, the counter
counts modulo 256; at a wrap every latch takes its brightness and every pin bit ends set unless that latch is 0; off
a wrap the latches hold, `Brightness` is neither written nor read, and each bit is cleared exactly where its latch
equals the new counter. -/
def Obligations.TickDrivesCountsSnapshotsCompares : Prop :=
  ∀ s : State, ∃ t, exec .tick s = .next t
    ∧ t.outPort = s.pinWord
    ∧ t.brightness = s.brightness
    ∧ t.tickCounter.toNat = (s.tickCounter.toNat + 1) % 256
    ∧ (s.tickCounter = 255 →
        t.compareLatch = s.brightness
        ∧ t.pinWord.length = s.cfg.n
        ∧ ∀ i, i < s.cfg.n → t.pinWord[i]? = some (s.brightness[i]? != some 0))
    ∧ (s.tickCounter ≠ 255 →
        t.compareLatch = s.compareLatch
        ∧ t.pinWord.length = s.pinWord.length
        ∧ (∀ (i : Nat) (b : Bool), s.pinWord[i]? = some b → t.pinWord[i]? = some (b && s.compareLatch[i]? != some t.tickCounter))
        ∧ ∀ b' : List Byte, exec .tick { s with brightness := b' } = .next { t with brightness := b' })

/-- 40_engine_tick.md R81, 60_exceptions.md R148, R149: TICK neither writes nor reads anything of the main context but
`Brightness`, which it does not write: entry saves nothing and return restores nothing. -/
def Obligations.TickLeavesMainContextAlone : Prop :=
  ∀ (s t : State) (inc : List Byte) (dir : Bool) (k : Nat) (p : Phase) (f : BitVec 3), exec .tick s = .next t →
    t.brightness = s.brightness ∧ t.increment = s.increment ∧ t.direction = s.direction
    ∧ t.scanIdx = s.scanIdx ∧ t.phase = s.phase ∧ t.configFault = s.configFault
    ∧ t.cfg = s.cfg ∧ t.inbox = s.inbox
    ∧ exec .tick { s with increment := inc, direction := dir, scanIdx := k, phase := p, configFault := f }
        = .next { t with increment := inc, direction := dir, scanIdx := k, phase := p, configFault := f }

/-- 40_engine_tick.md R81, R85: the comparators working side by side do what the loop of the pseudocode does. -/
def Obligations.CompareLoopEqualsLanes : Prop :=
  ∀ (latch : List Byte) (t : Byte) (w : PinBits), latch.length = w.length →
    clearMatchesLoop w.length latch t w = clearMatches latch t w

/-- 40_engine_tick.md section 4 (R88, R89, which the spec derives): the closed form of the pin word and the output
waveform are kept by every step, whatever operations arrive. -/
def Obligations.EngineLawKeptByEveryStep : Prop :=
  ∀ s t : State, s.EngineLaw → step s = .next t → t.EngineLaw

/-- 40_engine_tick.md R95, last sentence, with the reset values of 10_state.md R34 and R35: the engine's laws hold
from reset on, in every configuration (R35's values are the model's choice, log 9). -/
def Obligations.EngineLawAtReset : Prop :=
  ∀ (c : Config) (inbox : List EventWord), (State.resetFor c inbox).EngineLaw

/-- 40_engine_tick.md R90: from a wrap on, over the 256 slots up to the next wrap tick's DRIVE, channel `i` is high in
exactly `V` slots, `V` its latch; whatever else happens meanwhile (any main-context operation, any brightness write)
and whatever the other channels hold. Its premise `EngineLaw` rests on the reading of R95 of log 17 (DEDUCED): it leaves
out a first cycle whose slot 0 shows a stale bit, which `FirstCycleDutyApartFromSlotZero` covers. -/
def Obligations.DutyFidelity : Prop :=
  ∀ (s t : State) (ops : List Instr) (i : Nat) (v : Byte),
    s.EngineLaw → s.tickCounter = 0 → s.compareLatch[i]? = some v →
    .rst ∉ ops → ops.count .tick = 255 → runOps ops s = .next t →
    (s.outPort :: portSamples ops s).length = 256
    ∧ highSlots i (s.outPort :: portSamples ops s) = v.toNat

/-- 40_engine_tick.md R90 with R95, read as log 17 (DEDUCED) reads them: in a cycle whose pin word has its closed form
(R88), as from the first wrap after any engine state, channel `i` is high in exactly `V` of the slots 1 to 255, whatever
the port shows in slot 0. -/
def Obligations.FirstCycleDutyApartFromSlotZero : Prop :=
  ∀ (s t : State) (ops : List Instr) (i : Nat) (v : Byte),
    s.Coherent → s.PinLaw → s.tickCounter = 0 → s.compareLatch[i]? = some v →
    .rst ∉ ops → ops.count .tick = 255 → runOps ops s = .next t →
    (portSamples ops s).length = 255 ∧ highSlots i (portSamples ops s) = v.toNat

/-- 40_engine_tick.md R92: `CompareLatch` is refreshed exactly once per 256 ticks. Over a trace without reset the
counter advances by the number of TICKs; the latches hold until the counter wraps; the TICK that wraps takes what
`Brightness` holds then; and the counter is 0 after reset (that last clause is the model's choice among what
10_state.md R35 and R36 allow, log 9). -/
def Obligations.SnapshotOncePer256Ticks : Prop :=
  (∀ (s t : State) (ops : List Instr), .rst ∉ ops → runOps ops s = .next t →
    t.tickCounter.toNat = (s.tickCounter.toNat + ops.count .tick) % 256
    ∧ (s.tickCounter.toNat + ops.count .tick < 256 → t.compareLatch = s.compareLatch)
    ∧ (s.tickCounter.toNat + ops.count .tick = 255 →
        ∀ u, exec .tick t = .next u → u.tickCounter = 0 ∧ u.compareLatch = t.brightness))
  ∧ ∀ (c : Config) (inbox : List EventWord), (State.resetFor c inbox).tickCounter = 0

/-- 20_memory.md R52, which the spec derives from R82 and R84: until the next wrap the engine does not see what
`Brightness` holds; a value overwritten before it is never seen. -/
def Obligations.WriteUnseenUntilWrap : Prop :=
  ∀ (s t : State) (k : Nat) (b' : List Byte),
    s.tickCounter.toNat + k < 256 → runTicks k s = .next t →
    runTicks k { s with brightness := b' } = .next { t with brightness := b' }

/-- 40_engine_tick.md R91, which the spec derives from R84 and R85: what a TICK does to channel `i` depends on that
channel and the counter alone, even across blocks of different widths. -/
def Obligations.LanesAreIndependent : Prop :=
  ∀ (s s' t t' : State) (i : Nat),
    i < s.cfg.n → i < s'.cfg.n → s.tickCounter = s'.tickCounter →
    s.brightness[i]? = s'.brightness[i]? → s.compareLatch[i]? = s'.compareLatch[i]? →
    s.pinWord[i]? = s'.pinWord[i]? →
    exec .tick s = .next t → exec .tick s' = .next t' →
    t.outPort[i]? = t'.outPort[i]? ∧ t.pinWord[i]? = t'.pinWord[i]? ∧ t.compareLatch[i]? = t'.compareLatch[i]?

/-- 40_engine_tick.md R95 and 10_state.md R36, which the spec derives: whatever the engine held before, the pin word
has its closed form from the first wrap on, and the waveform of R89 from one tick later. -/
def Obligations.FirstWrapRestoresEngineLaw : Prop :=
  ∀ s t u : State, s.Coherent → s.tickCounter = 255 → exec .tick s = .next t → exec .tick t = .next u →
    t.PinLaw ∧ u.EngineLaw

/-- 70_reset_and_hazards.md R174, which the spec derives with the decided reset values (log 9): all outputs are low for the
first 256 ticks after reset, whatever the main context or the write port does. -/
def Obligations.DarkForFirst256Ticks : Prop :=
  ∀ (c : Config) (inbox : List EventWord) (ops : List Instr) (t : State),
    .rst ∉ ops → ops.count .tick ≤ 256 → runOps ops (State.resetFor c inbox) = .next t →
    ∀ b ∈ t.outPort, b = false

/-! ### The write port: WRB -/

/-- 41_brightness_port.md R100: without the wrapper and for a legal channel WRB writes that one latch, with any u8,
and nothing else; otherwise it is refused. R100's condition is taken as it stands with `ConfigFault != 0` too
(`N > 256`, log 19). -/
def Obligations.WrbWritesItsLatchOnly : Prop :=
  ∀ (s : State) (ch data : Byte), s.Coherent →
    (s.cfg.wrapperPresent = false → ch.toNat < s.cfg.n →
      ∃ t, exec (.wrb ch data) s = .next t
        ∧ t = { s with brightness := t.brightness }
        ∧ t.brightness.length = s.brightness.length
        ∧ ∀ j, j < s.cfg.n → t.readBrightness j = if j = ch.toNat then data else s.readBrightness j)
    ∧ (¬(s.cfg.wrapperPresent = false ∧ ch.toNat < s.cfg.n) → ∃ r, exec (.wrb ch data) s = .refused r)

/-- 20_memory.md R57: a brightness write and a wrap that coincide are taken in either order: the write first and the
snapshot captures the new value, the tick first and it captures the old one. -/
def Obligations.WriteAndWrapInEitherOrder : Prop :=
  ∀ (s t u : State) (ch data : Byte), s.tickCounter = 255 →
    runOps [.wrb ch data, .tick] s = .next t → runOps [.tick, .wrb ch data] s = .next u →
    t.compareLatch[ch.toNat]? = some data
    ∧ u.compareLatch[ch.toNat]? = s.brightness[ch.toNat]?
    ∧ t.brightness = u.brightness
    ∧ ∀ j, j ≠ ch.toNat → t.compareLatch[j]? = u.compareLatch[j]?

/-! ### Reset and the configuration fault: RST -/

/-- 10_state.md R34, R37 and 70_reset_and_hazards.md R170: RST completes in every state and leaves every element at
its reset value; the values of R35 are the spec's decided ones (log 9, DESIGN CHOICE). That the configuration and the
events still to arrive stay is the model's choice (log 15, DESIGN CHOICE). -/
def Obligations.RstEstablishesResetValues : Prop :=
  ∀ s : State, ∃ t, exec .rst s = .next t
    ∧ (∀ i, i < s.cfg.n → t.brightness[i]? = some 0 ∧ t.compareLatch[i]? = some 0
        ∧ t.pinWord[i]? = some false ∧ t.outPort[i]? = some false)
    ∧ (∀ i, 1 ≤ i → i < s.cfg.n → t.increment[i]? = some 0)
    ∧ (0 < s.cfg.n → s.cfg.fadeStep ≤ 127 → ∃ v : Byte, t.increment[0]? = some v ∧ v.toInt = (s.cfg.fadeStep : Int))
    ∧ t.brightness.length = s.cfg.n ∧ t.increment.length = s.cfg.n ∧ t.compareLatch.length = s.cfg.n
    ∧ t.pinWord.length = s.cfg.n ∧ t.outPort.length = s.cfg.n
    ∧ t.direction = false ∧ t.tickCounter = 0 ∧ t.scanIdx = 0 ∧ t.phase = .check
    ∧ t.configFault = faultMask s.cfg ∧ t.cfg = s.cfg ∧ t.inbox = s.inbox

/-- 60_exceptions.md R141 and 10_state.md R30: the bits of the mask RST raises, each exactly for its cause, all causes
that hold at once; RST alone writes it. Without the wrapper only the two checks on `N` remain (R142). -/
def Obligations.ConfigFaultBitsAreTheirCauses : Prop :=
  (∀ s t : State, exec .rst s = .next t →
    (s.cfg.wrapperPresent = true →
      (t.configFault[0] = true ↔ s.cfg.fadeStep ≠ 0 ∧ s.cfg.maxBright % s.cfg.fadeStep ≠ 0)
      ∧ (t.configFault[1] = true ↔ s.cfg.startThreshold ≥ s.cfg.maxBright)
      ∧ (t.configFault[2] = true ↔ s.cfg.n = 0 ∨ s.cfg.fadeStep = 0 ∨ s.cfg.fadeStep > 127 ∨ s.cfg.maxBright = 0
          ∨ s.cfg.maxBright > 255 ∨ s.cfg.startThreshold > 255 ∨ s.cfg.n > 256))
    ∧ (s.cfg.wrapperPresent = false →
      t.configFault[0] = false ∧ t.configFault[1] = false
      ∧ (t.configFault[2] = true ↔ s.cfg.n = 0 ∨ s.cfg.n > 256)))
  ∧ ∀ (i : Instr) (s t : State), i ≠ .rst → exec i s = .next t → t.configFault = s.configFault

/-- 00_scope.md R11 with R14, and 10_state.md R35: the mask is 0 exactly when `CFG_VALID` holds. -/
def Obligations.NoFaultExactlyWhenValid : Prop :=
  ∀ c : Config, faultMask c = 0 ↔ c.Valid

/-- 60_exceptions.md R142, with the wrapper present: from the reset of an invalid configuration the main context never
runs: whatever is applied, only TICK and RST go through, the main context keeps its reset values, the fault stays, every output stays
low for ever, TICK stays enabled, and the four Chase operations are refused. The reset direction and position and the
dark outputs before the first wrap rest on log 9 (DESIGN CHOICE). Without the wrapper only `N = 0` and `N > 256` are
checked; what such a bare engine does is `BareConfigFaultLeavesPortEnabled`, for WRB is not halted there (log 19). -/
def Obligations.ConfigFaultHaltsMainContext : Prop :=
  (∀ (c : Config) (inbox : List EventWord) (ops : List Instr) (t : State),
    c.wrapperPresent = true → faultMask c ≠ 0 → runOps ops (State.resetFor c inbox) = .next t →
    (∀ i ∈ ops, i = .tick ∨ i = .rst)
    ∧ t.brightness = (State.resetFor c inbox).brightness ∧ t.increment = (State.resetFor c inbox).increment
    ∧ t.direction = false ∧ t.scanIdx = 0 ∧ t.phase = .check ∧ t.configFault = faultMask c
    ∧ (∀ b ∈ t.outPort, b = false)
    ∧ (∃ u, exec .tick t = .next u)
    ∧ ∀ i ∈ [Instr.chk, .pau, .int, .fdl], ∃ r, exec i t = .refused r)
  ∧ ∀ c : Config, c.wrapperPresent = false → (faultMask c ≠ 0 ↔ c.n = 0 ∨ c.n > 256)

/-- The model's choice (log 19, DESIGN CHOICE) where 60_exceptions.md R142 and 70_reset_and_hazards.md R188 (outputs low
for ever) meet 30_encoding.md R71 and 41_brightness_port.md R100 (WRB enabled): a bare engine with a configuration fault
keeps the fault, TICK goes on, the Chase operations are refused, WRB of a channel below `N` goes through, and until one
has, `Brightness` keeps its zeros and every output is low (with the reset values of log 9). -/
def Obligations.BareConfigFaultLeavesPortEnabled : Prop :=
  ∀ (c : Config) (inbox : List EventWord) (ops : List Instr) (t : State),
    c.wrapperPresent = false → faultMask c ≠ 0 → runOps ops (State.resetFor c inbox) = .next t →
    t.configFault = faultMask c
    ∧ (∃ u, exec .tick t = .next u)
    ∧ (∀ i ∈ [Instr.chk, .pau, .int, .fdl], ∃ r, exec i t = .refused r)
    ∧ (∀ ch data : Byte, ch.toNat < c.n → ∃ u, exec (.wrb ch data) t = .next u)
    ∧ ((∀ ch data, .wrb ch data ∉ ops) →
        t.brightness = List.replicate c.n 0 ∧ ∀ b ∈ t.outPort, b = false)

/-- The model's choice of configuration for the reset state (log 2): it is the reset state of CFG-A with no event
waiting, with the values of 70_reset_and_hazards.md R170's example (those of R35 by log 9). -/
def Obligations.ResetIsTheExampleReset : Prop :=
  State.reset = State.resetFor Config.cfgA []
  ∧ State.reset.brightness = [0, 0, 0] ∧ State.reset.increment = [2, 0, 0]
  ∧ State.reset.compareLatch = [0, 0, 0] ∧ State.reset.direction = false ∧ State.reset.tickCounter = 0
  ∧ State.reset.pinWord.value = 0 ∧ State.reset.outPort.value = 0
  ∧ State.reset.phase = .check ∧ State.reset.scanIdx = 0 ∧ State.reset.configFault = 0

/-! ### The Chase Controller: CHK, PAU, INT, FDL -/

/-- 42_chase_controller.md R113: at `MAX_BRIGHT` exactly CHK makes the increment `-S`, whatever it held, hands nothing
off and changes nothing else but `Phase`. -/
def Obligations.ChkTurnsPeakDown : Prop :=
  ∀ s : State, s.Coherent → s.Running → s.phase = .check →
    (s.readBrightness s.scanIdx).toNat = s.cfg.maxBright →
    ∃ v : Byte, v.toInt = -(s.cfg.fadeStep : Int)
      ∧ exec .chk s = .next { s with increment := s.increment.set s.scanIdx v, phase := .integrate }

/-- 42_chase_controller.md R114 under both policies of 00_scope.md R12: below the peak, a channel fading up that meets
the threshold test gives `+S` to the next channel in the sweep direction, whatever that held, and at the boundary
channel writes nothing; nothing else changes but `Phase`. -/
def Obligations.ChkHandsOff : Prop :=
  ∀ s : State, s.Coherent → s.Running → s.phase = .check →
    (s.readBrightness s.scanIdx).toNat ≠ s.cfg.maxBright →
    0 < (s.readIncrement s.scanIdx).toInt →
    (s.cfg.handoffPolicy = .ge → s.cfg.startThreshold ≤ (s.readBrightness s.scanIdx).toNat) →
    (s.cfg.handoffPolicy = .eq → s.cfg.startThreshold = (s.readBrightness s.scanIdx).toNat) →
    ∃ v : Byte, v.toInt = (s.cfg.fadeStep : Int)
      ∧ (s.direction = false → s.scanIdx < s.cfg.n - 1 →
          exec .chk s = .next { s with increment := s.increment.set (s.scanIdx + 1) v, phase := .integrate })
      ∧ (s.direction = true → 0 < s.scanIdx →
          exec .chk s = .next { s with increment := s.increment.set (s.scanIdx - 1) v, phase := .integrate })
      ∧ (s.direction = false → s.scanIdx = s.cfg.n - 1 → exec .chk s = .next { s with phase := .integrate })
      ∧ (s.direction = true → s.scanIdx = 0 → exec .chk s = .next { s with phase := .integrate })

/-- 42_chase_controller.md R115: at brightness 0 while fading down the channel goes idle; if it is the last channel in
the sweep direction as it stands, the direction flips, the channel is re-seeded with `+S` and the pause begins. -/
def Obligations.ChkCompletesOrReverses : Prop :=
  ∀ s : State, s.Coherent → s.Running → s.phase = .check →
    s.readBrightness s.scanIdx = 0 → (s.readIncrement s.scanIdx).toInt < 0 →
    ∃ v : Byte, v.toInt = (s.cfg.fadeStep : Int)
      ∧ ((s.direction = false ∧ s.scanIdx = s.cfg.n - 1) ∨ (s.direction = true ∧ s.scanIdx = 0) →
          exec .chk s = .next
            { s with increment := s.increment.set s.scanIdx v, direction := !s.direction, phase := .pause })
      ∧ ((s.direction = false ∧ s.scanIdx ≠ s.cfg.n - 1) ∨ (s.direction = true ∧ s.scanIdx ≠ 0) →
          exec .chk s = .next { s with increment := s.increment.set s.scanIdx 0, phase := .integrate })

/-- 42_chase_controller.md R112, R116(d): where none of the three steps takes its branch, CHK changes `Phase` alone. -/
def Obligations.ChkWithoutBranchMovesPhaseOnly : Prop :=
  ∀ s : State, s.Coherent → s.Running → s.phase = .check →
    (s.readBrightness s.scanIdx).toNat ≠ s.cfg.maxBright →
    ¬(0 < (s.readIncrement s.scanIdx).toInt
        ∧ ((s.cfg.handoffPolicy = .ge ∧ s.cfg.startThreshold ≤ (s.readBrightness s.scanIdx).toNat)
          ∨ (s.cfg.handoffPolicy = .eq ∧ s.cfg.startThreshold = (s.readBrightness s.scanIdx).toNat))) →
    ¬(s.readBrightness s.scanIdx = 0 ∧ (s.readIncrement s.scanIdx).toInt < 0) →
    exec .chk s = .next { s with phase := .integrate }

/-- 42_chase_controller.md R116(a), (b), (c), which the spec derives: in any CHK of a running Chase Controller at most one
of the three steps takes its branch, each judged on the state the steps before it leave. -/
def Obligations.ChkTakesAtMostOneBranch : Prop :=
  ∀ s : State, s.Coherent → s.Running →
    let i := s.scanIdx
    let s1 := peakStep i s
    let s2 := handoffStep i s1
    ¬(atPeak s.cfg (s.readBrightness i) = true ∧ handsOff i s1 = true)
    ∧ ¬(atPeak s.cfg (s.readBrightness i) = true ∧ completes i s2 = true)
    ∧ ¬(handsOff i s1 = true ∧ completes i s2 = true)

/-- 42_chase_controller.md R117: PAU ends the pause, changes `Phase` alone, and is refused otherwise. -/
def Obligations.PauEndsPause : Prop :=
  ∀ s : State,
    (s.phase = .pause → s.Running → exec .pau s = .next { s with phase := .integrate })
    ∧ (¬(s.phase = .pause ∧ s.Running) → ∃ r, exec .pau s = .refused r)

/-- 42_chase_controller.md R118, R119: INT adds the signed increment to the unsigned brightness of channel `ScanIdx`,
the exact sum modulo 256, and moves the scan on: to the next channel's checks, or after channel `N-1` to the
inter-frame delay at channel 0. No other element changes; it is refused outside its phase. -/
def Obligations.IntIntegratesAndAdvances : Prop :=
  ∀ s : State, s.Coherent →
    (s.phase = .integrate → s.Running →
      ∃ b : Byte, (b.toNat : Int) = ((s.readBrightness s.scanIdx).toNat + (s.readIncrement s.scanIdx).toInt) % 256
        ∧ exec .int s = .next
            { s with
              brightness := s.brightness.set s.scanIdx b
              scanIdx := if s.scanIdx = s.cfg.n - 1 then 0 else s.scanIdx + 1
              phase := if s.scanIdx = s.cfg.n - 1 then .frameDelay else .check })
    ∧ (¬(s.phase = .integrate ∧ s.Running) → ∃ r, exec .int s = .refused r)

/-- 42_chase_controller.md R120: FDL ends the inter-frame delay, changes `Phase` alone, and is refused otherwise; the
scan is at channel 0. -/
def Obligations.FdlEndsDelay : Prop :=
  ∀ s : State, s.Coherent →
    (s.phase = .frameDelay → s.Running →
      s.scanIdx = 0 ∧ exec .fdl s = .next { s with phase := .check, scanIdx := 0 })
    ∧ (¬(s.phase = .frameDelay ∧ s.Running) → ∃ r, exec .fdl s = .refused r)

/-- 30_encoding.md R71: each operation goes through exactly when its enabling condition holds; data above `MAX_BRIGHT`
is no ground to refuse a WRB, nor is `ConfigFault != 0`, which R71 asks of the Chase operations alone (log 19). -/
def Obligations.EnabledExactlyWhen : Prop :=
  ∀ (s : State) (ch data : Byte), s.Coherent →
    (∃ t, exec .tick s = .next t) ∧ (∃ t, exec .rst s = .next t)
    ∧ ((∃ t, exec (.wrb ch data) s = .next t) ↔ s.cfg.wrapperPresent = false ∧ ch.toNat < s.cfg.n)
    ∧ ((∃ t, exec .chk s = .next t) ↔ s.phase = .check ∧ s.Running)
    ∧ ((∃ t, exec .pau s = .next t) ↔ s.phase = .pause ∧ s.Running)
    ∧ ((∃ t, exec .int s = .next t) ↔ s.phase = .integrate ∧ s.Running)
    ∧ ((∃ t, exec .fdl s = .next t) ↔ s.phase = .frameDelay ∧ s.Running)

/-- 42_chase_controller.md R111, R125: while the main context runs, exactly one of its four operations is enabled, the
one its phase names, and the position moves as the table says; the pause follows a CHK exactly when it inverted
`Direction`. -/
def Obligations.MainContextFollowsItsTable : Prop :=
  ∀ s : State, s.Coherent → s.Running →
    (∀ i ∈ [Instr.chk, .pau, .int, .fdl], (∃ t, exec i s = .next t) ↔ i = mainOp s.phase)
    ∧ ∃ t, runMain s = .next t
      ∧ (s.phase = .check → t.scanIdx = s.scanIdx
          ∧ ((t.phase = .pause ∧ t.direction = !s.direction) ∨ (t.phase = .integrate ∧ t.direction = s.direction)))
      ∧ (s.phase = .pause → t.phase = .integrate ∧ t.scanIdx = s.scanIdx)
      ∧ (s.phase = .integrate → s.scanIdx < s.cfg.n - 1 → t.phase = .check ∧ t.scanIdx = s.scanIdx + 1)
      ∧ (s.phase = .integrate → s.scanIdx = s.cfg.n - 1 → t.phase = .frameDelay ∧ t.scanIdx = 0)
      ∧ (s.phase = .frameDelay → t.phase = .check ∧ t.scanIdx = 0)

/-- 42_chase_controller.md R123, which the spec derives: the net effect of the whole per-channel contract. -/
def Obligations.ChstepNetEffect : Prop :=
  ∀ s : State, s.Coherent → s.Running → s.phase = .check →
    let i := s.scanIdx
    let inc1 := if (s.readBrightness i).toNat = s.cfg.maxBright then minusStep s.cfg else s.readIncrement i
    let done := s.readBrightness i = 0 ∧ inc1.toInt < 0
    let rev := done ∧ ((s.direction = false ∧ i = s.cfg.n - 1) ∨ (s.direction = true ∧ i = 0))
    let inc2 := if rev then plusStep s.cfg else if done then 0 else inc1
    ∃ t, runChstep s = .next t
      ∧ t.readIncrement i = inc2
      ∧ t.readBrightness i = s.readBrightness i + inc2
      ∧ (∀ j, j ≠ i → t.readBrightness j = s.readBrightness j)
      ∧ t.direction = (if rev then !s.direction else s.direction)
      ∧ t.scanIdx = (i + 1) % s.cfg.n
      ∧ t.phase = (if i + 1 = s.cfg.n then .frameDelay else .check)
      ∧ (∀ j, j ≠ i →
          t.readIncrement j =
            if atThreshold s.cfg (s.readBrightness i) = true ∧ 0 < inc1.toInt ∧ nextChannel s.cfg s.direction i = some j
            then plusStep s.cfg else s.readIncrement j)

/-- 42_chase_controller.md R110, R124: a FRAME begun at the first channel's checks runs to its end, through every
channel in turn, and leaves the position where it began; begun anywhere else it is refused (30_encoding.md R73). -/
def Obligations.FrameReturnsToItsStart : Prop :=
  ∀ s : State, s.Coherent → s.Running →
    (s.phase = .check → s.scanIdx = 0 →
      ∃ t, runFrame s = .next t ∧ t.phase = .check ∧ t.scanIdx = 0 ∧ t.Coherent ∧ t.cfg = s.cfg
        ∧ t.tickCounter = s.tickCounter ∧ t.outPort = s.outPort ∧ t.pinWord = s.pinWord
        ∧ t.compareLatch = s.compareLatch)
    ∧ (¬(s.phase = .check ∧ s.scanIdx = 0) → ∃ r, runFrame s = .refused r)

/-- 42_chase_controller.md R129, in the situation the rule describes (every other channel idle at 0): the frame after
the boundary channel's brightness reaches 0 with a negative increment reverses the sweep there, at either end. -/
def Obligations.ReversalAtTheBoundary : Prop :=
  ∀ (s : State) (e : Nat), s.Coherent → s.Running → s.phase = .check → s.scanIdx = 0 →
    ((s.direction = false ∧ e = s.cfg.n - 1) ∨ (s.direction = true ∧ e = 0)) →
    (∀ j, j < s.cfg.n → s.readBrightness j = 0) →
    (∀ j, j < s.cfg.n → j ≠ e → s.readIncrement j = 0) →
    (s.readIncrement e).toInt < 0 →
    ∃ t, runFrame s = .next t
      ∧ t.direction = !s.direction
      ∧ (t.readIncrement e).toInt = (s.cfg.fadeStep : Int)
      ∧ (t.readBrightness e).toNat = s.cfg.fadeStep
      ∧ (∀ j, j < s.cfg.n → j ≠ e → t.readBrightness j = 0)

/-- 42_chase_controller.md R127, which the spec derives: where `LIVE_CFG` fails, no CHK of a state on the grid hands
off; no other channel's increment ever changes. -/
def Obligations.NoHandoffWithoutLiveConfiguration : Prop :=
  ∀ s t : State, s.Coherent → s.OnGrid → s.cfg.Valid → s.cfg.handoffPolicy = .ge → ¬ s.cfg.Live →
    exec .chk s = .next t → ∀ j, j ≠ s.scanIdx → t.increment[j]? = s.increment[j]?

/-! ### The whole machine -/

/-- 10_state.md R20 with 60_exceptions.md R151 and 70_reset_and_hazards.md R179: the single-writer table: each element
changes only under an operation of its owner. -/
def Obligations.EachElementHasItsOwnWriters : Prop :=
  ∀ (i : Instr) (s t : State), exec i s = .next t → i ≠ .rst →
    (i ≠ .tick → t.compareLatch = s.compareLatch ∧ t.tickCounter = s.tickCounter ∧ t.pinWord = s.pinWord
      ∧ t.outPort = s.outPort)
    ∧ (i ≠ .int → (∀ ch data, i ≠ .wrb ch data) → t.brightness = s.brightness)
    ∧ (i ≠ .chk → t.increment = s.increment ∧ t.direction = s.direction)
    ∧ (i ≠ .int → t.scanIdx = s.scanIdx)
    ∧ (i ∉ [Instr.chk, .pau, .int, .fdl] → t.phase = s.phase)
    ∧ t.configFault = s.configFault

/-- 10_state.md R24: `Direction` is written, apart from reset, only by CHK and only at a reversal, where it is
inverted: the boundary channel's brightness is 0, and the pause follows. -/
def Obligations.DirectionChangesOnlyAtReversal : Prop :=
  ∀ (i : Instr) (s t : State), s.Coherent → exec i s = .next t → i ≠ .rst → t.direction ≠ s.direction →
    i = .chk ∧ t.direction = (!s.direction) ∧ t.phase = .pause
    ∧ s.readBrightness s.scanIdx = 0
    ∧ s.scanIdx = (if s.direction then 0 else s.cfg.n - 1)
    ∧ t.readIncrement s.scanIdx = plusStep s.cfg

/-- 00_scope.md R10: the parameters never change, whatever arrives. -/
def Obligations.ConfigurationNeverChanges : Prop :=
  ∀ s t : State, step s = .next t → t.cfg = s.cfg

/-- 10_state.md R20, R28, 42_chase_controller.md R111: every step keeps the state of the types R20 gives. -/
def Obligations.CoherenceKeptByEveryStep : Prop :=
  ∀ s t : State, s.Coherent → step s = .next t → t.Coherent

/-- 10_state.md R20, R37: the reset state of every configuration is of the types R20 gives. -/
def Obligations.CoherenceAtReset : Prop :=
  ∀ (c : Config) (inbox : List EventWord), (State.resetFor c inbox).Coherent

/-- 42_chase_controller.md R126, the invariant of the rule's argument (which the spec derives): every step keeps every
brightness a multiple of `S` in `[0, MAX_BRIGHT]` and every increment one of `0, +S, -S`. -/
def Obligations.BrightnessLawKeptByEveryStep : Prop :=
  ∀ s t : State, s.Coherent → s.BrightnessLaw → step s = .next t → t.BrightnessLaw

/-- 42_chase_controller.md R126, 'It holds at reset'. -/
def Obligations.BrightnessLawAtReset : Prop :=
  ∀ (c : Config) (inbox : List EventWord), (State.resetFor c inbox).BrightnessLaw

/-- 10_state.md R31: in every state reachable from reset, under a valid configuration and with the wrapper present,
`0 <= Brightness[i] <= MAX_BRIGHT` for all `i`; TICKs may fall anywhere. -/
def Obligations.BrightnessNeverExceedsMaximum : Prop :=
  ∀ (c : Config) (inbox : List EventWord) (ops : List Instr) (t : State),
    c.wrapperPresent = true → c.Valid → runOps ops (State.resetFor c inbox) = .next t →
    ∀ b ∈ t.brightness, 0 ≤ b.toNat ∧ b.toNat ≤ c.maxBright

/-- 20_memory.md R51 with 92_eei_decisions.md D1 and D12: a TICK and a main-context operation may change places unless
the TICK is a wrap and the operation writes `Brightness`; nothing distinguishes the two orders. -/
def Obligations.TickAndMainStepCommute : Prop :=
  ∀ (i : Instr) (s : State), i ≠ .rst →
    (s.tickCounter ≠ 255 ∨ (i ≠ .int ∧ ∀ ch data, i ≠ .wrb ch data)) →
    runOps [.tick, i] s = runOps [i, .tick] s

/-- 30_encoding.md R72: the rule's example trace reads as its operations and encodes to its event words. -/
def Obligations.TraceTextExampleEncodes : Prop :=
  ∃ ops, parseTrace ("RST; WRB 2, 128; TICK".toList) = some (ops.map .op)
    ∧ eventWords ops = [0x030000, 0x020280, 0x010000]
end

