-- ==== Sys2Proof/Laws/Decode.lean ====
section
/-! SUPPORT. The fields of an event word and the word of its fields (30_encoding.md R67). -/

namespace Sys2Proof

@[simp] theorem eventWord_op (op ch data : Byte) : (eventWord op ch data).op = op := by
  apply BitVec.eq_of_toNat_eq
  have := ch.isLt
  have := data.isLt
  have := op.isLt
  simp only [eventWord, EventWord.op, BitVec.extractLsb'_toNat, BitVec.toNat_append, Nat.shiftRight_eq_div_pow]
  rw [← Nat.shiftLeft_add_eq_or_of_lt (by omega), ← Nat.shiftLeft_add_eq_or_of_lt (by omega)]
  simp only [Nat.shiftLeft_eq]; omega

@[simp] theorem eventWord_ch (op ch data : Byte) : (eventWord op ch data).ch = ch := by
  apply BitVec.eq_of_toNat_eq
  have := ch.isLt
  have := data.isLt
  have := op.isLt
  simp only [eventWord, EventWord.ch, BitVec.extractLsb'_toNat, BitVec.toNat_append, Nat.shiftRight_eq_div_pow]
  rw [← Nat.shiftLeft_add_eq_or_of_lt (by omega), ← Nat.shiftLeft_add_eq_or_of_lt (by omega)]
  simp only [Nat.shiftLeft_eq]; omega

@[simp] theorem eventWord_data (op ch data : Byte) : (eventWord op ch data).data = data := by
  apply BitVec.eq_of_toNat_eq
  have := ch.isLt
  have := data.isLt
  have := op.isLt
  simp only [eventWord, EventWord.data, BitVec.extractLsb'_toNat, BitVec.toNat_append, Nat.shiftRight_eq_div_pow]
  rw [← Nat.shiftLeft_add_eq_or_of_lt (by omega), ← Nat.shiftLeft_add_eq_or_of_lt (by omega)]
  simp only [Nat.shiftLeft_eq]; omega

/-- A word is the word of its own fields: no bit lies outside them. -/
theorem eventWord_fields (w : EventWord) : eventWord w.op w.ch w.data = w := by
  apply BitVec.eq_of_toNat_eq
  have := w.isLt
  have := w.op.isLt
  have := w.ch.isLt
  have := w.data.isLt
  simp only [eventWord, BitVec.toNat_append]
  rw [← Nat.shiftLeft_add_eq_or_of_lt (by omega), ← Nat.shiftLeft_add_eq_or_of_lt (by omega)]
  simp only [EventWord.op, EventWord.ch, EventWord.data, BitVec.extractLsb'_toNat, Nat.shiftLeft_eq, Nat.shiftRight_eq_div_pow]
  omega

/-- Decoding fields with a legal operation code. -/
theorem decodePlain_eq_ok (i j : Instr) (op ch data : Byte) :
    decodePlain i op ch data = .ok j ↔ (ch = 0 ∧ data = 0) ∧ j = i := by
  unfold decodePlain
  split
  · rename_i h
    constructor
    · rintro ⟨⟩; exact ⟨h, rfl⟩
    · rintro ⟨-, rfl⟩; rfl
  · rename_i h
    constructor
    · rintro ⟨⟩
    · rintro ⟨h', -⟩; exact absurd h' h

/-- The bytes of a stored word decode as its fields do. -/
theorem decodeBytes_wordBytes (w : EventWord) (rest : List Byte) :
    decodeBytes (wordBytes w ++ rest) =
      match decodeWord w with
      | .ok i => .ok (i, rest)
      | .error e => .error e := rfl

end Sys2Proof
end

