-- ==== Sys2Proof/Laws/State.lean ====
section
/-! SUPPORT. What each named update of the state does to each field: one lemma per field per update. -/

namespace Sys2Proof.Machine

/-! ### `State.writeBrightness` -/

@[simp] theorem State.writeBrightness_brightness (s : State) (i : Nat) (v : Byte) : (s.writeBrightness i v).brightness = s.brightness.set i v := rfl
@[simp] theorem State.writeBrightness_increment (s : State) (i : Nat) (v : Byte) : (s.writeBrightness i v).increment = s.increment := rfl
@[simp] theorem State.writeBrightness_compareLatch (s : State) (i : Nat) (v : Byte) : (s.writeBrightness i v).compareLatch = s.compareLatch := rfl
@[simp] theorem State.writeBrightness_direction (s : State) (i : Nat) (v : Byte) : (s.writeBrightness i v).direction = s.direction := rfl
@[simp] theorem State.writeBrightness_tickCounter (s : State) (i : Nat) (v : Byte) : (s.writeBrightness i v).tickCounter = s.tickCounter := rfl
@[simp] theorem State.writeBrightness_pinWord (s : State) (i : Nat) (v : Byte) : (s.writeBrightness i v).pinWord = s.pinWord := rfl
@[simp] theorem State.writeBrightness_outPort (s : State) (i : Nat) (v : Byte) : (s.writeBrightness i v).outPort = s.outPort := rfl
@[simp] theorem State.writeBrightness_scanIdx (s : State) (i : Nat) (v : Byte) : (s.writeBrightness i v).scanIdx = s.scanIdx := rfl
@[simp] theorem State.writeBrightness_phase (s : State) (i : Nat) (v : Byte) : (s.writeBrightness i v).phase = s.phase := rfl
@[simp] theorem State.writeBrightness_configFault (s : State) (i : Nat) (v : Byte) : (s.writeBrightness i v).configFault = s.configFault := rfl
@[simp] theorem State.writeBrightness_cfg (s : State) (i : Nat) (v : Byte) : (s.writeBrightness i v).cfg = s.cfg := rfl
@[simp] theorem State.writeBrightness_inbox (s : State) (i : Nat) (v : Byte) : (s.writeBrightness i v).inbox = s.inbox := rfl

/-! ### `State.writeIncrement` -/

@[simp] theorem State.writeIncrement_brightness (s : State) (i : Nat) (v : Byte) : (s.writeIncrement i v).brightness = s.brightness := rfl
@[simp] theorem State.writeIncrement_increment (s : State) (i : Nat) (v : Byte) : (s.writeIncrement i v).increment = s.increment.set i v := rfl
@[simp] theorem State.writeIncrement_compareLatch (s : State) (i : Nat) (v : Byte) : (s.writeIncrement i v).compareLatch = s.compareLatch := rfl
@[simp] theorem State.writeIncrement_direction (s : State) (i : Nat) (v : Byte) : (s.writeIncrement i v).direction = s.direction := rfl
@[simp] theorem State.writeIncrement_tickCounter (s : State) (i : Nat) (v : Byte) : (s.writeIncrement i v).tickCounter = s.tickCounter := rfl
@[simp] theorem State.writeIncrement_pinWord (s : State) (i : Nat) (v : Byte) : (s.writeIncrement i v).pinWord = s.pinWord := rfl
@[simp] theorem State.writeIncrement_outPort (s : State) (i : Nat) (v : Byte) : (s.writeIncrement i v).outPort = s.outPort := rfl
@[simp] theorem State.writeIncrement_scanIdx (s : State) (i : Nat) (v : Byte) : (s.writeIncrement i v).scanIdx = s.scanIdx := rfl
@[simp] theorem State.writeIncrement_phase (s : State) (i : Nat) (v : Byte) : (s.writeIncrement i v).phase = s.phase := rfl
@[simp] theorem State.writeIncrement_configFault (s : State) (i : Nat) (v : Byte) : (s.writeIncrement i v).configFault = s.configFault := rfl
@[simp] theorem State.writeIncrement_cfg (s : State) (i : Nat) (v : Byte) : (s.writeIncrement i v).cfg = s.cfg := rfl
@[simp] theorem State.writeIncrement_inbox (s : State) (i : Nat) (v : Byte) : (s.writeIncrement i v).inbox = s.inbox := rfl

/-! ### `State.setPhase` -/

@[simp] theorem State.setPhase_brightness (s : State) (p : Phase) : (s.setPhase p).brightness = s.brightness := rfl
@[simp] theorem State.setPhase_increment (s : State) (p : Phase) : (s.setPhase p).increment = s.increment := rfl
@[simp] theorem State.setPhase_compareLatch (s : State) (p : Phase) : (s.setPhase p).compareLatch = s.compareLatch := rfl
@[simp] theorem State.setPhase_direction (s : State) (p : Phase) : (s.setPhase p).direction = s.direction := rfl
@[simp] theorem State.setPhase_tickCounter (s : State) (p : Phase) : (s.setPhase p).tickCounter = s.tickCounter := rfl
@[simp] theorem State.setPhase_pinWord (s : State) (p : Phase) : (s.setPhase p).pinWord = s.pinWord := rfl
@[simp] theorem State.setPhase_outPort (s : State) (p : Phase) : (s.setPhase p).outPort = s.outPort := rfl
@[simp] theorem State.setPhase_scanIdx (s : State) (p : Phase) : (s.setPhase p).scanIdx = s.scanIdx := rfl
@[simp] theorem State.setPhase_phase (s : State) (p : Phase) : (s.setPhase p).phase = p := rfl
@[simp] theorem State.setPhase_configFault (s : State) (p : Phase) : (s.setPhase p).configFault = s.configFault := rfl
@[simp] theorem State.setPhase_cfg (s : State) (p : Phase) : (s.setPhase p).cfg = s.cfg := rfl
@[simp] theorem State.setPhase_inbox (s : State) (p : Phase) : (s.setPhase p).inbox = s.inbox := rfl

/-! ### `State.moveTo` -/

@[simp] theorem State.moveTo_brightness (s : State) (k : Nat) (p : Phase) : (s.moveTo k p).brightness = s.brightness := rfl
@[simp] theorem State.moveTo_increment (s : State) (k : Nat) (p : Phase) : (s.moveTo k p).increment = s.increment := rfl
@[simp] theorem State.moveTo_compareLatch (s : State) (k : Nat) (p : Phase) : (s.moveTo k p).compareLatch = s.compareLatch := rfl
@[simp] theorem State.moveTo_direction (s : State) (k : Nat) (p : Phase) : (s.moveTo k p).direction = s.direction := rfl
@[simp] theorem State.moveTo_tickCounter (s : State) (k : Nat) (p : Phase) : (s.moveTo k p).tickCounter = s.tickCounter := rfl
@[simp] theorem State.moveTo_pinWord (s : State) (k : Nat) (p : Phase) : (s.moveTo k p).pinWord = s.pinWord := rfl
@[simp] theorem State.moveTo_outPort (s : State) (k : Nat) (p : Phase) : (s.moveTo k p).outPort = s.outPort := rfl
@[simp] theorem State.moveTo_scanIdx (s : State) (k : Nat) (p : Phase) : (s.moveTo k p).scanIdx = k := rfl
@[simp] theorem State.moveTo_phase (s : State) (k : Nat) (p : Phase) : (s.moveTo k p).phase = p := rfl
@[simp] theorem State.moveTo_configFault (s : State) (k : Nat) (p : Phase) : (s.moveTo k p).configFault = s.configFault := rfl
@[simp] theorem State.moveTo_cfg (s : State) (k : Nat) (p : Phase) : (s.moveTo k p).cfg = s.cfg := rfl
@[simp] theorem State.moveTo_inbox (s : State) (k : Nat) (p : Phase) : (s.moveTo k p).inbox = s.inbox := rfl

/-! ### `State.flipDirection` -/

@[simp] theorem State.flipDirection_brightness (s : State) : s.flipDirection.brightness = s.brightness := rfl
@[simp] theorem State.flipDirection_increment (s : State) : s.flipDirection.increment = s.increment := rfl
@[simp] theorem State.flipDirection_compareLatch (s : State) : s.flipDirection.compareLatch = s.compareLatch := rfl
@[simp] theorem State.flipDirection_direction (s : State) : s.flipDirection.direction = !s.direction := rfl
@[simp] theorem State.flipDirection_tickCounter (s : State) : s.flipDirection.tickCounter = s.tickCounter := rfl
@[simp] theorem State.flipDirection_pinWord (s : State) : s.flipDirection.pinWord = s.pinWord := rfl
@[simp] theorem State.flipDirection_outPort (s : State) : s.flipDirection.outPort = s.outPort := rfl
@[simp] theorem State.flipDirection_scanIdx (s : State) : s.flipDirection.scanIdx = s.scanIdx := rfl
@[simp] theorem State.flipDirection_phase (s : State) : s.flipDirection.phase = s.phase := rfl
@[simp] theorem State.flipDirection_configFault (s : State) : s.flipDirection.configFault = s.configFault := rfl
@[simp] theorem State.flipDirection_cfg (s : State) : s.flipDirection.cfg = s.cfg := rfl
@[simp] theorem State.flipDirection_inbox (s : State) : s.flipDirection.inbox = s.inbox := rfl

/-! ### `State.drive` -/

@[simp] theorem State.drive_brightness (s : State) : s.drive.brightness = s.brightness := rfl
@[simp] theorem State.drive_increment (s : State) : s.drive.increment = s.increment := rfl
@[simp] theorem State.drive_compareLatch (s : State) : s.drive.compareLatch = s.compareLatch := rfl
@[simp] theorem State.drive_direction (s : State) : s.drive.direction = s.direction := rfl
@[simp] theorem State.drive_tickCounter (s : State) : s.drive.tickCounter = s.tickCounter := rfl
@[simp] theorem State.drive_pinWord (s : State) : s.drive.pinWord = s.pinWord := rfl
@[simp] theorem State.drive_outPort (s : State) : s.drive.outPort = s.pinWord := rfl
@[simp] theorem State.drive_scanIdx (s : State) : s.drive.scanIdx = s.scanIdx := rfl
@[simp] theorem State.drive_phase (s : State) : s.drive.phase = s.phase := rfl
@[simp] theorem State.drive_configFault (s : State) : s.drive.configFault = s.configFault := rfl
@[simp] theorem State.drive_cfg (s : State) : s.drive.cfg = s.cfg := rfl
@[simp] theorem State.drive_inbox (s : State) : s.drive.inbox = s.inbox := rfl

/-! ### `State.count` -/

@[simp] theorem State.count_brightness (s : State) : s.count.brightness = s.brightness := rfl
@[simp] theorem State.count_increment (s : State) : s.count.increment = s.increment := rfl
@[simp] theorem State.count_compareLatch (s : State) : s.count.compareLatch = s.compareLatch := rfl
@[simp] theorem State.count_direction (s : State) : s.count.direction = s.direction := rfl
@[simp] theorem State.count_tickCounter (s : State) : s.count.tickCounter = nextTick s.tickCounter := rfl
@[simp] theorem State.count_pinWord (s : State) : s.count.pinWord = s.pinWord := rfl
@[simp] theorem State.count_outPort (s : State) : s.count.outPort = s.outPort := rfl
@[simp] theorem State.count_scanIdx (s : State) : s.count.scanIdx = s.scanIdx := rfl
@[simp] theorem State.count_phase (s : State) : s.count.phase = s.phase := rfl
@[simp] theorem State.count_configFault (s : State) : s.count.configFault = s.configFault := rfl
@[simp] theorem State.count_cfg (s : State) : s.count.cfg = s.cfg := rfl
@[simp] theorem State.count_inbox (s : State) : s.count.inbox = s.inbox := rfl

/-! ### `State.compare` -/

@[simp] theorem State.compare_brightness (s : State) : s.compare.brightness = s.brightness := rfl
@[simp] theorem State.compare_increment (s : State) : s.compare.increment = s.increment := rfl
@[simp] theorem State.compare_compareLatch (s : State) : s.compare.compareLatch = s.compareLatch := rfl
@[simp] theorem State.compare_direction (s : State) : s.compare.direction = s.direction := rfl
@[simp] theorem State.compare_tickCounter (s : State) : s.compare.tickCounter = s.tickCounter := rfl
@[simp] theorem State.compare_pinWord (s : State) : s.compare.pinWord = clearMatches s.compareLatch s.tickCounter s.pinWord := rfl
@[simp] theorem State.compare_outPort (s : State) : s.compare.outPort = s.outPort := rfl
@[simp] theorem State.compare_scanIdx (s : State) : s.compare.scanIdx = s.scanIdx := rfl
@[simp] theorem State.compare_phase (s : State) : s.compare.phase = s.phase := rfl
@[simp] theorem State.compare_configFault (s : State) : s.compare.configFault = s.configFault := rfl
@[simp] theorem State.compare_cfg (s : State) : s.compare.cfg = s.cfg := rfl
@[simp] theorem State.compare_inbox (s : State) : s.compare.inbox = s.inbox := rfl

/-! ### `State.raiseConfigFault` -/

@[simp] theorem State.raiseConfigFault_brightness (s : State) (m : BitVec 3) : (s.raiseConfigFault m).brightness = s.brightness := rfl
@[simp] theorem State.raiseConfigFault_increment (s : State) (m : BitVec 3) : (s.raiseConfigFault m).increment = s.increment := rfl
@[simp] theorem State.raiseConfigFault_compareLatch (s : State) (m : BitVec 3) : (s.raiseConfigFault m).compareLatch = s.compareLatch := rfl
@[simp] theorem State.raiseConfigFault_direction (s : State) (m : BitVec 3) : (s.raiseConfigFault m).direction = s.direction := rfl
@[simp] theorem State.raiseConfigFault_tickCounter (s : State) (m : BitVec 3) : (s.raiseConfigFault m).tickCounter = s.tickCounter := rfl
@[simp] theorem State.raiseConfigFault_pinWord (s : State) (m : BitVec 3) : (s.raiseConfigFault m).pinWord = s.pinWord := rfl
@[simp] theorem State.raiseConfigFault_outPort (s : State) (m : BitVec 3) : (s.raiseConfigFault m).outPort = s.outPort := rfl
@[simp] theorem State.raiseConfigFault_scanIdx (s : State) (m : BitVec 3) : (s.raiseConfigFault m).scanIdx = s.scanIdx := rfl
@[simp] theorem State.raiseConfigFault_phase (s : State) (m : BitVec 3) : (s.raiseConfigFault m).phase = s.phase := rfl
@[simp] theorem State.raiseConfigFault_configFault (s : State) (m : BitVec 3) : (s.raiseConfigFault m).configFault = m := rfl
@[simp] theorem State.raiseConfigFault_cfg (s : State) (m : BitVec 3) : (s.raiseConfigFault m).cfg = s.cfg := rfl
@[simp] theorem State.raiseConfigFault_inbox (s : State) (m : BitVec 3) : (s.raiseConfigFault m).inbox = s.inbox := rfl

/-! ### `State.pushEvent` -/

@[simp] theorem State.pushEvent_brightness (s : State) (w : EventWord) : (s.pushEvent w).brightness = s.brightness := rfl
@[simp] theorem State.pushEvent_increment (s : State) (w : EventWord) : (s.pushEvent w).increment = s.increment := rfl
@[simp] theorem State.pushEvent_compareLatch (s : State) (w : EventWord) : (s.pushEvent w).compareLatch = s.compareLatch := rfl
@[simp] theorem State.pushEvent_direction (s : State) (w : EventWord) : (s.pushEvent w).direction = s.direction := rfl
@[simp] theorem State.pushEvent_tickCounter (s : State) (w : EventWord) : (s.pushEvent w).tickCounter = s.tickCounter := rfl
@[simp] theorem State.pushEvent_pinWord (s : State) (w : EventWord) : (s.pushEvent w).pinWord = s.pinWord := rfl
@[simp] theorem State.pushEvent_outPort (s : State) (w : EventWord) : (s.pushEvent w).outPort = s.outPort := rfl
@[simp] theorem State.pushEvent_scanIdx (s : State) (w : EventWord) : (s.pushEvent w).scanIdx = s.scanIdx := rfl
@[simp] theorem State.pushEvent_phase (s : State) (w : EventWord) : (s.pushEvent w).phase = s.phase := rfl
@[simp] theorem State.pushEvent_configFault (s : State) (w : EventWord) : (s.pushEvent w).configFault = s.configFault := rfl
@[simp] theorem State.pushEvent_cfg (s : State) (w : EventWord) : (s.pushEvent w).cfg = s.cfg := rfl
@[simp] theorem State.pushEvent_inbox (s : State) (w : EventWord) : (s.pushEvent w).inbox = w :: s.inbox := rfl

/-! ### `State.resetFor` -/

@[simp] theorem State.resetFor_brightness (c : Config) (x : List EventWord) : (State.resetFor c x).brightness = List.replicate c.n 0 := rfl
@[simp] theorem State.resetFor_increment (c : Config) (x : List EventWord) : (State.resetFor c x).increment = (List.replicate c.n 0).set 0 (plusStep c) := rfl
@[simp] theorem State.resetFor_compareLatch (c : Config) (x : List EventWord) : (State.resetFor c x).compareLatch = List.replicate c.n 0 := rfl
@[simp] theorem State.resetFor_direction (c : Config) (x : List EventWord) : (State.resetFor c x).direction = false := rfl
@[simp] theorem State.resetFor_tickCounter (c : Config) (x : List EventWord) : (State.resetFor c x).tickCounter = 0 := rfl
@[simp] theorem State.resetFor_pinWord (c : Config) (x : List EventWord) : (State.resetFor c x).pinWord = List.replicate c.n false := rfl
@[simp] theorem State.resetFor_outPort (c : Config) (x : List EventWord) : (State.resetFor c x).outPort = List.replicate c.n false := rfl
@[simp] theorem State.resetFor_scanIdx (c : Config) (x : List EventWord) : (State.resetFor c x).scanIdx = 0 := rfl
@[simp] theorem State.resetFor_phase (c : Config) (x : List EventWord) : (State.resetFor c x).phase = .check := rfl
@[simp] theorem State.resetFor_configFault (c : Config) (x : List EventWord) : (State.resetFor c x).configFault = faultMask c := rfl
@[simp] theorem State.resetFor_cfg (c : Config) (x : List EventWord) : (State.resetFor c x).cfg = c := rfl
@[simp] theorem State.resetFor_inbox (c : Config) (x : List EventWord) : (State.resetFor c x).inbox = x := rfl

/-! ### `State.snapshotAtWrap`: the fields it never touches -/

@[simp] theorem State.snapshotAtWrap_brightness (s : State) : s.snapshotAtWrap.brightness = s.brightness := by
  unfold State.snapshotAtWrap; split <;> rfl
@[simp] theorem State.snapshotAtWrap_increment (s : State) : s.snapshotAtWrap.increment = s.increment := by
  unfold State.snapshotAtWrap; split <;> rfl
@[simp] theorem State.snapshotAtWrap_direction (s : State) : s.snapshotAtWrap.direction = s.direction := by
  unfold State.snapshotAtWrap; split <;> rfl
@[simp] theorem State.snapshotAtWrap_tickCounter (s : State) : s.snapshotAtWrap.tickCounter = s.tickCounter := by
  unfold State.snapshotAtWrap; split <;> rfl
@[simp] theorem State.snapshotAtWrap_outPort (s : State) : s.snapshotAtWrap.outPort = s.outPort := by
  unfold State.snapshotAtWrap; split <;> rfl
@[simp] theorem State.snapshotAtWrap_scanIdx (s : State) : s.snapshotAtWrap.scanIdx = s.scanIdx := by
  unfold State.snapshotAtWrap; split <;> rfl
@[simp] theorem State.snapshotAtWrap_phase (s : State) : s.snapshotAtWrap.phase = s.phase := by
  unfold State.snapshotAtWrap; split <;> rfl
@[simp] theorem State.snapshotAtWrap_configFault (s : State) : s.snapshotAtWrap.configFault = s.configFault := by
  unfold State.snapshotAtWrap; split <;> rfl
@[simp] theorem State.snapshotAtWrap_cfg (s : State) : s.snapshotAtWrap.cfg = s.cfg := by
  unfold State.snapshotAtWrap; split <;> rfl
@[simp] theorem State.snapshotAtWrap_inbox (s : State) : s.snapshotAtWrap.inbox = s.inbox := by
  unfold State.snapshotAtWrap; split <;> rfl

end Sys2Proof.Machine
end

