-- ==== Sys2Proof/Laws/Ops.lean ====
section
/-! SUPPORT. For each shared operation, what it does, said once. -/

namespace Sys2Proof.Machine

/-! ### Operands -/

theorem nextTick_eq (t : Byte) : nextTick t = t + 1 := by
  unfold nextTick trunc8 zext8
  apply BitVec.eq_of_toNat_eq
  simp only [BitVec.toNat_ofInt, BitVec.toNat_add]
  have := t.isLt
  simp; omega

theorem nextTick_toNat (t : Byte) : (nextTick t).toNat = (t.toNat + 1) % 256 := by
  rw [nextTick_eq, BitVec.toNat_add]; rfl

theorem nextTick_eq_zero (t : Byte) : nextTick t = 0 ↔ t = 255 := by
  rw [nextTick_eq]; constructor <;> intro h <;> bv_omega

theorem integrate_eq (b inc : Byte) : integrate b inc = b + inc := by
  unfold integrate trunc8 zext8 sext8
  apply BitVec.eq_of_toNat_eq
  rw [BitVec.toNat_ofInt, BitVec.toNat_add, BitVec.toInt_eq_toNat_cond]
  have := b.isLt
  have := inc.isLt
  split <;> simp <;> omega

theorem integrate_toNat (b inc : Byte) :
    ((integrate b inc).toNat : Int) = (b.toNat + inc.toInt) % 256 := by
  unfold integrate trunc8 zext8 sext8
  rw [BitVec.toNat_ofInt]; simp; omega

theorem plusStep_toNat {c : Config} (h : c.fadeStep ≤ 127) : (plusStep c).toNat = c.fadeStep := by
  simp [plusStep, h]; omega

theorem plusStep_toInt {c : Config} (h : c.fadeStep ≤ 127) : (plusStep c).toInt = c.fadeStep := by
  rw [BitVec.toInt_eq_toNat_cond, plusStep_toNat h]; split <;> omega

theorem minusStep_toNat {c : Config} (h : c.fadeStep ≤ 127) : (minusStep c).toNat = (256 - c.fadeStep) % 256 := by
  simp [minusStep, BitVec.toNat_neg, plusStep_toNat h]

theorem minusStep_toInt {c : Config} (h : c.fadeStep ≤ 127) : (minusStep c).toInt = -(c.fadeStep : Int) := by
  rw [BitVec.toInt_eq_toNat_cond, minusStep_toNat h]; split <;> omega

theorem atPeak_iff (c : Config) (b : Byte) : atPeak c b = true ↔ b.toNat = c.maxBright := by simp [atPeak]

theorem atThreshold_iff (c : Config) (b : Byte) :
    atThreshold c b = true ↔
      (c.handoffPolicy = .ge → c.startThreshold ≤ b.toNat) ∧ (c.handoffPolicy = .eq → c.startThreshold = b.toNat) := by
  unfold atThreshold
  cases h : c.handoffPolicy
  · simp
  · simp only [reduceCtorEq, false_implies, true_implies, true_and, beq_iff_eq]
    exact eq_comm

theorem fadingUp_iff (v : Byte) : fadingUp v = true ↔ 0 < v.toInt := decide_eq_true_iff

theorem fadingDown_iff (v : Byte) : fadingDown v = true ↔ v.toInt < 0 := decide_eq_true_iff

/-! ### Flags -/

/-- The mask is 0 exactly when none of its three causes holds. -/
theorem faultMask_eq_zero (c : Config) :
    faultMask c = 0 ↔ cfStep c = false ∧ cfThresh c = false ∧ cfRange c = false := by
  unfold faultMask
  cases cfStep c <;> cases cfThresh c <;> cases cfRange c <;> decide

theorem faultMask_bits (c : Config) :
    (faultMask c)[0] = cfStep c ∧ (faultMask c)[1] = cfThresh c ∧ (faultMask c)[2] = cfRange c := by
  unfold faultMask
  cases cfStep c <;> cases cfThresh c <;> cases cfRange c <;> decide

theorem nextChannel_eq_some (c : Config) (d : Bool) (i k : Nat) :
    nextChannel c d i = some k ↔ (d = false ∧ i + 1 < c.n ∧ k = i + 1) ∨ (d = true ∧ 0 < i ∧ k = i - 1) := by
  cases d <;> simp only [nextChannel] <;> split <;> simp_all [eq_comm]

theorem isBoundary_iff (c : Config) (d : Bool) (i : Nat) :
    isBoundary c d i = true ↔ (d = false ∧ i + 1 = c.n) ∨ (d = true ∧ i = 0) := by
  cases d <;> simp [isBoundary]

/-! ### The engine's sub-steps -/

@[simp] theorem clearMatches_length (latch : List Byte) (t : Byte) (w : PinBits) :
    (clearMatches latch t w).length = w.length := by simp [clearMatches]

theorem clearMatches_getElem? (latch : List Byte) (t : Byte) (w : PinBits) (i : Nat) :
    (clearMatches latch t w)[i]? = w[i]?.map fun bit => bit && latch[i]? != some t := by
  simp [clearMatches, List.getElem?_mapIdx]

/-- At a wrap: every latch takes its brightness and the pin word is all ones. -/
theorem snapshotAtWrap_wrap {s : State} (h : s.tickCounter = 0) :
    s.snapshotAtWrap = { s with compareLatch := s.brightness, pinWord := onesN s.cfg.n } :=
  if_pos h

theorem snapshotAtWrap_off {s : State} (h : s.tickCounter ≠ 0) : s.snapshotAtWrap = s := if_neg h

/-- One invocation of the engine, off a wrap. -/
theorem engineTick_off {s : State} (h : s.tickCounter ≠ 255) :
    engineTick s =
      { s with
        outPort := s.pinWord
        tickCounter := s.tickCounter + 1
        pinWord := clearMatches s.compareLatch (s.tickCounter + 1) s.pinWord } := by
  have h0 : s.drive.count.tickCounter ≠ 0 := fun h' => h ((nextTick_eq_zero _).mp h')
  simp only [engineTick, snapshotAtWrap_off h0]
  simp [State.compare, State.count, State.drive, nextTick_eq]

/-- One invocation of the engine, at a wrap. -/
theorem engineTick_wrap {s : State} (h : s.tickCounter = 255) :
    engineTick s =
      { s with
        outPort := s.pinWord
        tickCounter := 0
        compareLatch := s.brightness
        pinWord := clearMatches s.brightness 0 (onesN s.cfg.n) } := by
  have h0 : s.drive.count.tickCounter = 0 := (nextTick_eq_zero _).mpr h
  have h1 : nextTick s.tickCounter = 0 := h0
  simp only [engineTick, snapshotAtWrap_wrap h0]
  simp [State.compare, State.count, State.drive, h1]

@[simp] theorem engineTick_brightness (s : State) : (engineTick s).brightness = s.brightness := by simp [engineTick]
@[simp] theorem engineTick_increment (s : State) : (engineTick s).increment = s.increment := by simp [engineTick]
@[simp] theorem engineTick_direction (s : State) : (engineTick s).direction = s.direction := by simp [engineTick]
@[simp] theorem engineTick_tickCounter (s : State) : (engineTick s).tickCounter = nextTick s.tickCounter := by
  simp [engineTick]
@[simp] theorem engineTick_outPort (s : State) : (engineTick s).outPort = s.pinWord := by simp [engineTick]
@[simp] theorem engineTick_scanIdx (s : State) : (engineTick s).scanIdx = s.scanIdx := by simp [engineTick]
@[simp] theorem engineTick_phase (s : State) : (engineTick s).phase = s.phase := by simp [engineTick]
@[simp] theorem engineTick_configFault (s : State) : (engineTick s).configFault = s.configFault := by simp [engineTick]
@[simp] theorem engineTick_cfg (s : State) : (engineTick s).cfg = s.cfg := by simp [engineTick]
@[simp] theorem engineTick_inbox (s : State) : (engineTick s).inbox = s.inbox := by simp [engineTick]

/-! ### The channel arrays -/

theorem readBrightness_writeBrightness (s : State) (i j : Nat) (v : Byte) :
    (s.writeBrightness i v).readBrightness j =
      if j = i ∧ i < s.brightness.length then v else s.readBrightness j := by
  simp only [State.readBrightness, State.writeBrightness_brightness, List.getD_eq_getElem?_getD, List.getElem?_set]
  by_cases h : i = j
  · subst h; by_cases hl : i < s.brightness.length <;> simp [hl]
  · simp [h, Ne.symm h]

theorem readIncrement_writeIncrement (s : State) (i j : Nat) (v : Byte) :
    (s.writeIncrement i v).readIncrement j =
      if j = i ∧ i < s.increment.length then v else s.readIncrement j := by
  simp only [State.readIncrement, State.writeIncrement_increment, List.getD_eq_getElem?_getD, List.getElem?_set]
  by_cases h : i = j
  · subst h; by_cases hl : i < s.increment.length <;> simp [hl]
  · simp [h, Ne.symm h]

theorem hasChannel_iff (s : State) (i : Nat) :
    s.hasChannel i = true ↔
      i < s.cfg.n ∧ s.brightness.length = s.cfg.n ∧ s.increment.length = s.cfg.n := by
  simp [State.hasChannel, and_assoc]

/-! ### Enabling, and the outcomes -/

theorem onChannel_eq_next (s t : State) (i : Nat) (k : Result) :
    onChannel s i k = .next t ↔ s.hasChannel i = true ∧ k = .next t := by
  unfold onChannel; split <;> simp_all

theorem unlessStopped_eq_next (o : Option Refusal) (k : Result) (t : State) :
    unlessStopped o k = .next t ↔ o = none ∧ k = .next t := by
  cases o <;> simp [unlessStopped]

theorem chaseStop_eq_none (p : Phase) (s : State) : chaseStop p s = none ↔ s.Running ∧ s.phase = p := by
  unfold chaseStop State.Running
  by_cases h1 : s.cfg.wrapperPresent = false
  · simp [h1]
  by_cases h2 : s.configFault = 0
  · by_cases h3 : s.phase = p <;> simp_all
  · rw [if_neg h1, if_pos h2]; simp only [reduceCtorEq, h2, and_false, false_and]

theorem portStop_eq_none (ch : Byte) (s : State) :
    portStop ch s = none ↔ ch.toNat < s.cfg.n ∧ s.cfg.wrapperPresent = false := by
  unfold portStop
  by_cases h1 : ch.toNat < s.cfg.n <;> by_cases h2 : s.cfg.wrapperPresent = true <;> simp_all

@[simp] theorem andThen_next (s : State) (k : State → Result) : andThen (.next s) k = k s := rfl

theorem andThen_eq_next (r : Result) (k : State → Result) (t : State) :
    andThen r k = .next t ↔ ∃ u, r = .next u ∧ k u = .next t := by
  cases r <;> simp [andThen]

/-! ### The exception and the fetch -/

/-- Raising the configuration fault writes the register and nothing else. -/
theorem raiseConfigFault_eq (s : State) (m : BitVec 3) :
    s.raiseConfigFault m = { s with configFault := m } := rfl

theorem fetchEvent_nil {s : State} (h : s.inbox = []) : s.fetchEvent = none := by simp [State.fetchEvent, h]

theorem fetchEvent_cons {s : State} {w : EventWord} {rest : List EventWord} (h : s.inbox = w :: rest) :
    s.fetchEvent = some (w, { s with inbox := rest }) := by simp [State.fetchEvent, h]

end Sys2Proof.Machine
end

