-- ==== Sys2Proof/Laws/Exec.lean ====
section
/-! SUPPORT. What each operation and each of its parts can do: the frames of the sub-steps of CHK and INT, and one
inversion lemma per operation (if `exec` answers a next state, it is this one and these conditions held). -/

namespace Sys2Proof.Machine

/-! ### The sub-steps of CHK: only `Increment`, `Direction` and `Phase` -/

theorem peakStep_eq (i : Nat) (s : State) :
    peakStep i s =
      { s with increment := if atPeak s.cfg (s.readBrightness i) then s.increment.set i (minusStep s.cfg)
                            else s.increment } := by
  unfold peakStep; split <;> rfl

/-- What the handoff leaves in the increments. -/
theorem handoffStep_eq (i : Nat) (s : State) :
    handoffStep i s =
      { s with increment :=
          if handsOff i s then
            match nextChannel s.cfg s.direction i with
            | some k => s.increment.set k (plusStep s.cfg)
            | none => s.increment
          else s.increment } := by
  unfold handoffStep
  split
  · cases nextChannel s.cfg s.direction i <;> rfl
  · rfl

theorem completionStep_eq (i : Nat) (s : State) :
    completionStep i s =
      { s with
        increment := if reverses i s then s.increment.set i (plusStep s.cfg)
                     else if completes i s then s.increment.set i 0 else s.increment
        direction := if reverses i s then !s.direction else s.direction } := by
  unfold completionStep
  split
  · simp [State.writeIncrement, State.flipDirection]
  · split <;> rfl

/-- CHK's work on channel `i` writes `Increment`, `Direction` and `Phase` and nothing else. -/
theorem checkChannel_frame (i : Nat) (s : State) :
    checkChannel i s =
      { s with
        increment := (checkChannel i s).increment
        direction := (checkChannel i s).direction
        phase := (checkChannel i s).phase } := by
  simp only [checkChannel, completionStep_eq, handoffStep_eq, peakStep_eq, State.setPhase]

@[simp] theorem checkChannel_brightness (i : Nat) (s : State) : (checkChannel i s).brightness = s.brightness := by
  rw [checkChannel_frame]
@[simp] theorem checkChannel_cfg (i : Nat) (s : State) : (checkChannel i s).cfg = s.cfg := by rw [checkChannel_frame]
@[simp] theorem checkChannel_inbox (i : Nat) (s : State) : (checkChannel i s).inbox = s.inbox := by
  rw [checkChannel_frame]
@[simp] theorem checkChannel_scanIdx (i : Nat) (s : State) : (checkChannel i s).scanIdx = s.scanIdx := by
  rw [checkChannel_frame]
@[simp] theorem checkChannel_configFault (i : Nat) (s : State) : (checkChannel i s).configFault = s.configFault := by
  rw [checkChannel_frame]

theorem checkChannel_increment_length (i : Nat) (s : State) :
    (checkChannel i s).increment.length = s.increment.length := by
  simp only [checkChannel, completionStep_eq, handoffStep_eq, peakStep_eq, State.setPhase_increment]
  repeat' split
  all_goals simp

/-- After CHK's work the phase is PAUSE or INTEGRATE, PAUSE exactly when the direction was inverted. -/
theorem checkChannel_phase (i : Nat) (s : State) :
    ((checkChannel i s).phase = .pause ∧ (checkChannel i s).direction = !s.direction)
      ∨ ((checkChannel i s).phase = .integrate ∧ (checkChannel i s).direction = s.direction) := by
  simp only [checkChannel, State.setPhase_phase, State.setPhase_direction, completionStep_eq]
  split
  · exact .inl ⟨rfl, by simp [handoffStep_eq, peakStep_eq]⟩
  · exact .inr ⟨rfl, by simp [handoffStep_eq, peakStep_eq]⟩

/-! ### Integration -/

/-- INT's work on channel `i`. -/
theorem integrateChannel_eq (i : Nat) (s : State) :
    integrateChannel i s =
      { s with
        brightness := s.brightness.set i (s.readBrightness i + s.readIncrement i)
        scanIdx := if i + 1 = s.cfg.n then 0 else i + 1
        phase := if i + 1 = s.cfg.n then .frameDelay else .check } := by
  simp only [integrateChannel, advanceScan, integrate_eq, State.writeBrightness_cfg]
  split <;> rfl

/-! ### Inversion, one lemma per operation -/

@[simp] theorem exec_tick (s : State) : exec .tick s = .next (engineTick s) := rfl

@[simp] theorem exec_rst (s : State) : exec .rst s = .next (State.resetFor s.cfg s.inbox) := rfl

theorem exec_wrb_eq_next (ch data : Byte) (s t : State) :
    exec (.wrb ch data) s = .next t ↔
      (ch.toNat < s.cfg.n ∧ s.cfg.wrapperPresent = false) ∧ s.hasChannel ch.toNat = true
        ∧ t = s.writeBrightness ch.toNat data := by
  change execWrb ch data s = _ ↔ _
  simp only [execWrb, unlessStopped_eq_next, portStop_eq_none, onChannel_eq_next, Host.Outcome.next.injEq]
  constructor <;> rintro ⟨h1, h2, h3⟩ <;> exact ⟨h1, h2, h3.symm⟩

theorem exec_chk_eq_next (s t : State) :
    exec .chk s = .next t ↔
      (s.Running ∧ s.phase = .check) ∧ s.hasChannel s.scanIdx = true ∧ t = checkChannel s.scanIdx s := by
  change execChk s = _ ↔ _
  simp only [execChk, unlessStopped_eq_next, chaseStop_eq_none, onChannel_eq_next, Host.Outcome.next.injEq]
  constructor <;> rintro ⟨h1, h2, h3⟩ <;> exact ⟨h1, h2, h3.symm⟩

theorem exec_pau_eq_next (s t : State) :
    exec .pau s = .next t ↔ (s.Running ∧ s.phase = .pause) ∧ t = s.setPhase .integrate := by
  change execPau s = _ ↔ _
  simp only [execPau, unlessStopped_eq_next, chaseStop_eq_none, Host.Outcome.next.injEq]
  constructor <;> rintro ⟨h1, h2⟩ <;> exact ⟨h1, h2.symm⟩

theorem exec_int_eq_next (s t : State) :
    exec .int s = .next t ↔
      (s.Running ∧ s.phase = .integrate) ∧ s.hasChannel s.scanIdx = true ∧ t = integrateChannel s.scanIdx s := by
  change execInt s = _ ↔ _
  simp only [execInt, unlessStopped_eq_next, chaseStop_eq_none, onChannel_eq_next, Host.Outcome.next.injEq]
  constructor <;> rintro ⟨h1, h2, h3⟩ <;> exact ⟨h1, h2, h3.symm⟩

theorem exec_fdl_eq_next (s t : State) :
    exec .fdl s = .next t ↔ (s.Running ∧ s.phase = .frameDelay) ∧ t = s.setPhase .check := by
  change execFdl s = _ ↔ _
  simp only [execFdl, unlessStopped_eq_next, chaseStop_eq_none, Host.Outcome.next.injEq]
  constructor <;> rintro ⟨h1, h2⟩ <;> exact ⟨h1, h2.symm⟩

/-! ### The step and the traces -/

/-- A step either holds, or fetches a word that denotes an operation and runs it. -/
theorem step_eq_next (s t : State) :
    step s = .next t ↔
      (s.inbox = [] ∧ t = s)
      ∨ ∃ w rest i, s.inbox = w :: rest ∧ decodeFor s.cfg w = .ok i ∧ exec i { s with inbox := rest } = .next t := by
  unfold step
  cases h : s.inbox with
  | nil => simp [fetchEvent_nil h, State.hold, eq_comm]
  | cons w rest =>
    simp only [fetchEvent_cons h]
    cases hd : decodeFor s.cfg w <;> simp_all

theorem runOps_cons_eq_next (i : Instr) (is : List Instr) (s t : State) :
    runOps (i :: is) s = .next t ↔ ∃ u, exec i s = .next u ∧ runOps is u = .next t :=
  andThen_eq_next _ _ _

theorem repeatRun_succ_eq_next (k : State → Result) (n : Nat) (s t : State) :
    repeatRun k (n + 1) s = .next t ↔ ∃ u, k s = .next u ∧ repeatRun k n u = .next t :=
  andThen_eq_next _ _ _

@[simp] theorem runTicks_succ (n : Nat) (s : State) : runTicks (n + 1) s = runTicks n (engineTick s) := rfl

end Sys2Proof.Machine
end

