-- ==== Sys2Proof/Laws/PerInstr.lean ====
section
/-! SUPPORT. Statements about every operation as syntax, one lemma per constructor: the family `OpField`. -/

namespace Sys2Proof.Laws.OpField

/-- The encoded word carries the operation's code in its `op` field, and zeros in the fields R68 marks 'must be 0'. -/
def Statement (i : Instr) : Prop :=
  (encode i).op = i.opcode ∧ (i.opcode ≠ 0x02 → (encode i).ch = 0 ∧ (encode i).data = 0)

theorem tick : Statement .tick := ⟨eventWord_op .., fun _ => ⟨eventWord_ch .., eventWord_data ..⟩⟩
theorem wrb (ch data : Byte) : Statement (.wrb ch data) := ⟨eventWord_op .., fun h => absurd rfl h⟩
theorem rst : Statement .rst := ⟨eventWord_op .., fun _ => ⟨eventWord_ch .., eventWord_data ..⟩⟩
theorem chk : Statement .chk := ⟨eventWord_op .., fun _ => ⟨eventWord_ch .., eventWord_data ..⟩⟩
theorem pau : Statement .pau := ⟨eventWord_op .., fun _ => ⟨eventWord_ch .., eventWord_data ..⟩⟩
theorem int : Statement .int := ⟨eventWord_op .., fun _ => ⟨eventWord_ch .., eventWord_data ..⟩⟩
theorem fdl : Statement .fdl := ⟨eventWord_op .., fun _ => ⟨eventWord_ch .., eventWord_data ..⟩⟩

end Sys2Proof.Laws.OpField
end

