-- ==== Sys2Proof/Tests/Slice0.lean ====
section
/-! SUPPORT. The implementer's own tests: expected values come from spec/95_test_vectors.md and from the worked examples
of the rules. Then one witness for each statement with hypotheses: a state and operands that meet all of them. -/

open Sys2Proof Sys2Proof.Machine

namespace Sys2Proof.Tests

/-! ### Small states -/

/-- A state of CFG-A with the given position and Chase state; the engine as after reset. -/
def chase (k : Nat) (p : Phase) (b inc : List Byte) (dir : Bool) : State :=
  { State.reset with scanIdx := k, phase := p, brightness := b, increment := inc, direction := dir }

/-- A state of CFG-A with the given engine state and brightness; the Chase Controller as after reset. -/
def engine (t : Byte) (pin : PinBits) (latch b : List Byte) : State :=
  { State.reset with tickCounter := t, pinWord := pin, compareLatch := latch, brightness := b }

/-- The engine alone: four channels, no wrapper (V3). -/
def bareConfig : Config := { Config.cfgA with n := 4, wrapperPresent := false }

/-- The bare engine after reset. -/
def bare : State := State.resetFor bareConfig []

/-! ### WellFormed: an ill-formed operation for its one check (V8) -/

theorem test_wellFormed_refuses_channel : Instr.wellFormed { Config.cfgA with n := 7 } (.wrb 7 0) = false := by decide
theorem test_wellFormed_accepts_last_channel : Instr.wellFormed { Config.cfgA with n := 7 } (.wrb 6 0) = true := by decide
theorem test_decode_refuses_channel :
    decodeFor { Config.cfgA with n := 7 } 0x020700 = .error (.channelOutOfRange 7) := by decide

/-! ### Decode: event words written out from R68 (V8), every operation, and the refusals -/

theorem test_decode_tick : decodeWord 0b000000010000000000000000#24 = .ok .tick := by decide
theorem test_decode_wrb : decodeWord 0b000000100000001010000000#24 = .ok (.wrb 2 128) := by decide
theorem test_decode_rst : decodeWord 0b000000110000000000000000#24 = .ok .rst := by decide
theorem test_decode_chk : decodeWord 0b000100000000000000000000#24 = .ok .chk := by decide
theorem test_decode_pau : decodeWord 0b000100010000000000000000#24 = .ok .pau := by decide
theorem test_decode_int : decodeWord 0b000100100000000000000000#24 = .ok .int := by decide
theorem test_decode_fdl : decodeWord 0b000100110000000000000000#24 = .ok .fdl := by decide
theorem test_decode_zero : decodeWord 0x000000 = .error (.reservedOp 0) := by decide
theorem test_decode_tick_data : decodeWord 0x010001 = .error (.nonZeroField 1 0 1) := by decide
theorem test_decode_chk_ch : decodeWord 0x100100 = .error (.nonZeroField 0x10 1 0) := by decide
theorem test_decode_reserved : decodeWord 0x140000 = .error (.reservedOp 0x14) := by decide
theorem test_decode_bytes : decodeBytes [0x02, 0x00, 0xFF, 0x01] = .ok (.wrb 0 255, [0x01]) := by decide
theorem test_decode_truncated : decodeBytes [0x02, 0x00] = .error .truncated := by decide
theorem test_decodeTableWord : decodeTableWord 24 0x0203FF = some (.wrb 3 255) := by decide
theorem test_encode_wrb : encode (.wrb 2 128) = 0x020280 := by decide

/-! ### TICK (V4 a and d) -/

theorem test_tick_match_clears :
    (nextState? (exec .tick (engine 5 [true, true, true] [9, 6, 200] [1, 2, 3]))).map
        (fun s => (s.outPort, s.tickCounter, s.compareLatch, s.pinWord))
      = some ([true, true, true], 6, [9, 6, 200], [true, false, true]) := by decide
theorem test_tick_wrap_with_latch_zero :
    (nextState? (exec .tick (engine 255 [false, false, false] [9, 6, 200] [0, 0, 7]))).map
        (fun s => (s.outPort, s.tickCounter, s.compareLatch, s.pinWord))
      = some ([false, false, false], 0, [0, 0, 7], [false, false, true]) := by decide

/-! ### WRB (R100's worked example) -/

theorem test_wrb_writes_channel :
    (nextState? (exec (.wrb 2 128) bare)).map State.brightness = some [0, 0, 128, 0] := by decide
theorem test_wrb_refused_with_wrapper : refusal? (exec (.wrb 2 128) State.reset) = some .wrapperPresent := by decide

/-! ### RST (V7, P5) -/

theorem test_rst_step_fault :
    (nextState? (exec .rst { State.reset with cfg := { Config.cfgA with fadeStep := 3 } })).map
        (fun s => (s.configFault, s.increment)) = some (1, [3, 0, 0]) := by decide
theorem test_rst_no_channels :
    (nextState? (exec .rst { State.reset with cfg := { Config.cfgA with n := 0 } })).map State.configFault
      = some 4 := by decide

/-! ### CHK (V6 b and g) -/

theorem test_chk_hands_off :
    (nextState? (exec .chk (chase 0 .check [4, 0, 0] [2, 0, 0] false))).map (fun s => (s.increment, s.phase))
      = some ([2, 2, 0], .integrate) := by decide
theorem test_chk_reverses :
    (nextState? (exec .chk (chase 2 .check [0, 0, 0] [0, 0, 0xFE] false))).map
        (fun s => (s.increment, s.direction, s.phase)) = some ([0, 0, 2], true, .pause) := by decide

/-! ### PAU (V6 m and n) -/

theorem test_pau_ends_pause :
    (nextState? (exec .pau (chase 2 .pause [0, 0, 0] [0, 0, 2] true))).map State.phase = some .integrate := by decide
theorem test_pau_refused_in_integrate :
    refusal? (exec .pau (chase 2 .integrate [0, 0, 0] [0, 0, 2] true)) = some .wrongPhase := by decide

/-! ### INT (V6 p, and the first arithmetic corner case of R119) -/

theorem test_int_last_channel :
    (nextState? (exec .int (chase 2 .integrate [8, 8, 2] [0xFE, 2, 2] false))).map
        (fun s => (s.brightness, s.scanIdx, s.phase)) = some ([8, 8, 4], 0, .frameDelay) := by decide
theorem test_int_wraps :
    (nextState? (exec .int (chase 0 .integrate [255, 0, 0] [2, 0, 0] false))).map State.brightness
      = some [1, 0, 0] := by decide

/-! ### FDL (V6 t and u) -/

theorem test_fdl_ends_delay :
    (nextState? (exec .fdl (chase 0 .frameDelay [2, 0, 0] [2, 0, 0] false))).map State.phase = some .check := by decide
theorem test_fdl_refused_in_check : refusal? (exec .fdl State.reset) = some .wrongPhase := by decide

/-! ### The interface and the trace text -/

theorem test_fetch_after_reset : (nextState? (step (State.reset.withFetchWord 24 0x100000))).map State.phase
    = some .integrate := by decide
theorem test_all_high_is_ones : (onesN 3).value = 2 ^ 3 - 1 := by decide
theorem test_phase_codes : [Phase.check, .pause, .integrate, .frameDelay].map Phase.code = [0, 1, 2, 3] := by decide
theorem test_trace_text_pseudo : parseTrace ("FRAMES 7 # seven\n WRB 0x1 , 0xfF;MAIN".toList)
    = some [.frames 7, .op (.wrb 1 255), .main] := by decide
theorem test_trace_text_lower_case : parseTrace ("tick".toList) = none := by decide

/-! ### Witnesses -/

/-- A trace of TICKs always completes. -/
theorem ticks_complete (k : Nat) : ∀ s : State, ∃ t, runOps (List.replicate k .tick) s = .next t := by
  induction k with
  | zero => exact fun s => ⟨s, rfl⟩
  | succ k ih => exact fun s => ih (engineTick s)

theorem ticks_hold_no_reset (k : Nat) : .rst ∉ List.replicate k Instr.tick :=
  fun h => Instr.noConfusion (List.eq_of_mem_replicate h)

theorem witness_DecodeEncodeAgree : Instr.wellFormed Config.cfgA (.wrb 2 255) = true := by decide
theorem witness_DecodedWordReencodes : decodeWord 0x02FFFF = .ok (.wrb 255 255) := by decide
theorem witness_IllegalWordsAreRefused_op :
    (State.reset.pushEvent 0).inbox = [0] ∧ IllegalWord (State.reset.pushEvent 0).cfg 0 := by decide
theorem witness_IllegalWordsAreRefused_field :
    (State.reset.pushEvent 0x010001).inbox = [0x010001] ∧ IllegalWord Config.cfgA 0x010001 := by decide
theorem witness_IllegalWordsAreRefused_channel :
    (State.reset.pushEvent 0x020300).inbox = [0x020300] ∧ IllegalWord Config.cfgA 0x020300
      ∧ ¬ IllegalWord Config.cfgA 0x020200 := by decide
theorem witness_StepRunsDecodedEvent :
    (State.reset.pushEvent 0x100000).inbox = [0x100000] ∧ decodeWord 0x100000 = .ok .chk
      ∧ Instr.wellFormed Config.cfgA .chk = true := by decide
theorem witness_IdleStepHolds : State.reset.inbox = [] := by decide
theorem witness_PlacedWordRunsNext :
    decodeTableWord 24 0x020280 = some (.wrb 2 128) ∧ Instr.wellFormed Config.cfgA (.wrb 2 128) = true := by decide
theorem witness_RunOfEncodedEventsComposes :
    ∀ i ∈ [Instr.chk, .tick, .int], i.wellFormed State.reset.cfg = true := by decide
theorem witness_TickDrivesCountsSnapshotsCompares :
    (engine 255 [true, true, true] [9, 6, 200] [1, 2, 3]).tickCounter = 255
      ∧ (engine 254 [true, true, true] [9, 6, 200] [1, 2, 3]).tickCounter ≠ 255
      ∧ (engine 254 [true, true, true] [9, 6, 200] [1, 2, 3]).pinWord[2]? = some true := by decide
theorem witness_TickLeavesMainContextAlone : ∃ t, exec .tick State.reset = .next t := ⟨_, rfl⟩
theorem witness_CompareLoopEqualsLanes : ([1, 2, 3] : List Byte).length = ([true, true, false] : PinBits).length := by
  decide

/-- A coherent state in step with its latches, in the middle of a cycle. -/
def midCycle : State :=
  { engine 4 [true, false, true] [9, 4, 200] [1, 2, 3] with outPort := [true, true, true], inbox := [0x010000] }

theorem witness_EngineLawKeptByEveryStep : midCycle.EngineLaw ∧ ∃ t, step midCycle = .next t := ⟨by decide, _, rfl⟩

/-- The start of a cycle. -/
def cycleStart : State := engine 0 [true, false, true] [9, 0, 200] [1, 2, 3]

theorem witness_DutyFidelity :
    cycleStart.EngineLaw ∧ cycleStart.tickCounter = 0 ∧ cycleStart.compareLatch[2]? = some 200
      ∧ .rst ∉ List.replicate 255 Instr.tick ∧ (List.replicate 255 Instr.tick).count .tick = 255
      ∧ ∃ t, runOps (List.replicate 255 .tick) cycleStart = .next t :=
  ⟨by decide, by decide, by decide, ticks_hold_no_reset 255, List.count_replicate_self, ticks_complete 255 cycleStart⟩
/-- The start of the first cycle after a stale engine state: slot 0 shows stale bits (R95). -/
def staleCycleStart : State := { cycleStart with outPort := [true, true, true] }

theorem witness_FirstCycleDutyApartFromSlotZero :
    staleCycleStart.Coherent ∧ staleCycleStart.PinLaw ∧ ¬ staleCycleStart.EngineLaw ∧ staleCycleStart.tickCounter = 0
      ∧ staleCycleStart.compareLatch[2]? = some 200
      ∧ .rst ∉ List.replicate 255 Instr.tick ∧ (List.replicate 255 Instr.tick).count .tick = 255
      ∧ ∃ t, runOps (List.replicate 255 .tick) staleCycleStart = .next t :=
  ⟨by decide, by decide, by decide, by decide, by decide, ticks_hold_no_reset 255, List.count_replicate_self,
    ticks_complete 255 staleCycleStart⟩
theorem witness_SnapshotOncePer256Ticks :
    .rst ∉ [Instr.tick] ∧ (∃ t, runOps [.tick] (engine 254 [true, true, true] [9, 6, 200] [1, 2, 3]) = .next t)
      ∧ (254#8).toNat + [Instr.tick].count .tick = 255 := ⟨by decide, ⟨_, rfl⟩, by decide⟩
theorem witness_WriteUnseenUntilWrap :
    midCycle.tickCounter.toNat + 251 < 256 ∧ ∃ t, runTicks 251 midCycle = .next t :=
  ⟨by decide, ticks_complete 251 midCycle⟩
/-- A block of four channels that agrees with `midCycle` on channel 1. -/
def widerMidCycle : State := { bare with tickCounter := 4, brightness := [7, 2, 7, 7], compareLatch := [7, 4, 7, 7] }

theorem witness_LanesAreIndependent :
    (1 < midCycle.cfg.n ∧ 1 < widerMidCycle.cfg.n ∧ midCycle.tickCounter = widerMidCycle.tickCounter
      ∧ midCycle.brightness[1]? = widerMidCycle.brightness[1]?
      ∧ midCycle.compareLatch[1]? = widerMidCycle.compareLatch[1]?
      ∧ midCycle.pinWord[1]? = widerMidCycle.pinWord[1]?)
    ∧ ∃ t t', exec .tick midCycle = .next t ∧ exec .tick widerMidCycle = .next t' := ⟨by decide, _, _, rfl, rfl⟩
theorem witness_FirstWrapRestoresEngineLaw :
    (engine 255 [true, true, true] [9, 6, 200] [1, 0, 3]).Coherent
      ∧ (engine 255 [true, true, true] [9, 6, 200] [1, 0, 3]).tickCounter = 255
      ∧ ∃ t u, exec .tick (engine 255 [true, true, true] [9, 6, 200] [1, 0, 3]) = .next t ∧ exec .tick t = .next u :=
  ⟨by decide, by decide, _, _, rfl, rfl⟩
theorem witness_DarkForFirst256Ticks :
    .rst ∉ List.replicate 256 Instr.tick ∧ (List.replicate 256 Instr.tick).count .tick ≤ 256
      ∧ ∃ t, runOps (List.replicate 256 .tick) (State.resetFor bareConfig []) = .next t :=
  ⟨ticks_hold_no_reset 256, Nat.le_of_eq List.count_replicate_self, ticks_complete 256 _⟩
theorem witness_WrbWritesItsLatchOnly :
    bare.Coherent ∧ bare.cfg.wrapperPresent = false ∧ (3#8).toNat < bare.cfg.n ∧ ¬ (4#8).toNat < bare.cfg.n := by decide
theorem witness_WriteAndWrapInEitherOrder :
    ({ bare with tickCounter := 255 } : State).tickCounter = 255
      ∧ (nextState? (runOps [.wrb 3 9, .tick] { bare with tickCounter := 255 })).isSome = true
      ∧ (nextState? (runOps [.tick, .wrb 3 9] { bare with tickCounter := 255 })).isSome = true := by decide
theorem witness_RstEstablishesResetValues :
    2 < State.reset.cfg.n ∧ 0 < State.reset.cfg.n ∧ State.reset.cfg.fadeStep ≤ 127 := by decide
theorem witness_ConfigFaultBitsAreTheirCauses :
    (∃ t, exec .rst State.reset = .next t) ∧ State.reset.cfg.wrapperPresent = true
      ∧ (∃ t, exec .rst bare = .next t) ∧ bare.cfg.wrapperPresent = false
      ∧ ∃ t, exec .chk State.reset = .next t := ⟨⟨_, rfl⟩, rfl, ⟨_, rfl⟩, rfl, _, rfl⟩
theorem witness_ConfigFaultHaltsMainContext :
    ({ Config.cfgA with fadeStep := 3 } : Config).wrapperPresent = true
      ∧ faultMask { Config.cfgA with fadeStep := 3 } ≠ 0
      ∧ (nextState? (runOps [.tick, .rst] (State.resetFor { Config.cfgA with fadeStep := 3 } []))).isSome = true
      ∧ bareConfig.wrapperPresent = false := by decide

/-- A bare engine too wide for the event word: `CF_RANGE` is raised (R141), and the write port stays open (log 19). -/
def wideConfig : Config := { bareConfig with n := 257 }

theorem witness_BareConfigFaultLeavesPortEnabled :
    wideConfig.wrapperPresent = false ∧ faultMask wideConfig ≠ 0 ∧ (255#8).toNat < wideConfig.n
      ∧ (∃ t, runOps [.wrb 255 9] (State.resetFor wideConfig []) = .next t)
      ∧ ∃ t, runTicks 2 (State.resetFor wideConfig []) = .next t :=
  ⟨by decide, by decide, by decide,
    ⟨_, (runOps_cons_eq_next ..).mpr
      ⟨_, (exec_wrb_eq_next ..).mpr ⟨⟨by decide, by decide⟩,
        (hasChannel_iff ..).mpr ⟨by decide, List.length_replicate, List.length_set.trans List.length_replicate⟩, rfl⟩, rfl⟩⟩,
    ticks_complete 2 _⟩

/-- V6 d: a peak. -/
theorem witness_ChkTurnsPeakDown :
    let s := chase 0 .check [10, 6, 2] [2, 2, 2] false
    s.Coherent ∧ s.Running ∧ s.phase = .check ∧ (s.readBrightness s.scanIdx).toNat = s.cfg.maxBright := by decide

/-- The premises of the handoff at a state. -/
abbrev HandoffPremises (s : State) : Prop :=
  s.Coherent ∧ s.Running ∧ s.phase = .check ∧ (s.readBrightness s.scanIdx).toNat ≠ s.cfg.maxBright
    ∧ 0 < (s.readIncrement s.scanIdx).toInt
    ∧ (s.cfg.handoffPolicy = .ge → s.cfg.startThreshold ≤ (s.readBrightness s.scanIdx).toNat)
    ∧ (s.cfg.handoffPolicy = .eq → s.cfg.startThreshold = (s.readBrightness s.scanIdx).toNat)

/-- V6 b and e (low to high), h and a channel 0 going high to low. -/
theorem witness_ChkHandsOff :
    ∀ s ∈ [chase 0 .check [4, 0, 0] [2, 0, 0] false, chase 2 .check [6, 10, 6] [0xFE, 2, 2] false,
        chase 2 .check [0, 0, 4] [0, 0, 2] true, chase 0 .check [4, 10, 4] [2, 2, 0xFE] true],
      HandoffPremises s := by decide

/-- The premises of completion at a state. -/
abbrev CompletionPremises (s : State) : Prop :=
  s.Coherent ∧ s.Running ∧ s.phase = .check ∧ s.readBrightness s.scanIdx = 0 ∧ (s.readIncrement s.scanIdx).toInt < 0

/-- V6 f, g, i, and a channel that is not the boundary going high to low. -/
theorem witness_ChkCompletesOrReverses :
    CompletionPremises (chase 0 .check [0, 4, 8] [0xFE, 0xFE, 0xFE] false)
      ∧ CompletionPremises (chase 2 .check [0, 0, 0] [0, 0, 0xFE] false)
      ∧ CompletionPremises (chase 0 .check [0, 0, 0] [0xFE, 0, 0] true)
      ∧ CompletionPremises (chase 2 .check [8, 6, 0] [2, 0xFE, 0xFE] true) := by decide

/-- V6 a and k: fading up below the threshold, and idle. -/
theorem witness_ChkWithoutBranchMovesPhaseOnly :
    ∀ s ∈ [chase 0 .check [2, 0, 0] [2, 0, 0] false, chase 1 .check [0, 0, 6] [0, 0, 2] true],
      s.Coherent ∧ s.Running ∧ s.phase = .check
        ∧ (s.readBrightness s.scanIdx).toNat ≠ s.cfg.maxBright
        ∧ ¬(0 < (s.readIncrement s.scanIdx).toInt
            ∧ ((s.cfg.handoffPolicy = .ge ∧ s.cfg.startThreshold ≤ (s.readBrightness s.scanIdx).toNat)
              ∨ (s.cfg.handoffPolicy = .eq ∧ s.cfg.startThreshold = (s.readBrightness s.scanIdx).toNat)))
        ∧ ¬(s.readBrightness s.scanIdx = 0 ∧ (s.readIncrement s.scanIdx).toInt < 0) := by decide
theorem witness_ChkTakesAtMostOneBranch :
    (chase 0 .check [10, 6, 2] [2, 2, 2] false).Coherent ∧ (chase 0 .check [10, 6, 2] [2, 2, 2] false).Running := by decide
theorem witness_PauEndsPause :
    (chase 2 .pause [0, 0, 0] [0, 0, 2] true).phase = .pause ∧ (chase 2 .pause [0, 0, 0] [0, 0, 2] true).Running
      ∧ ¬(State.reset.phase = .pause ∧ State.reset.Running) := by decide
theorem witness_IntIntegratesAndAdvances :
    ∀ s ∈ [chase 0 .integrate [4, 0, 0] [2, 2, 0] false, chase 2 .integrate [8, 8, 2] [0xFE, 2, 2] false],
      s.Coherent ∧ s.phase = .integrate ∧ s.Running := by decide
theorem witness_FdlEndsDelay :
    (chase 0 .frameDelay [2, 0, 0] [2, 0, 0] false).Coherent
      ∧ (chase 0 .frameDelay [2, 0, 0] [2, 0, 0] false).phase = .frameDelay
      ∧ (chase 0 .frameDelay [2, 0, 0] [2, 0, 0] false).Running := by decide
theorem witness_EnabledExactlyWhen : State.reset.Coherent ∧ bare.Coherent := by decide
theorem witness_MainContextFollowsItsTable :
    ∀ s ∈ [State.reset, chase 2 .pause [0, 0, 0] [0, 0, 2] true, chase 0 .integrate [4, 0, 0] [2, 2, 0] false,
        chase 2 .integrate [8, 8, 2] [0xFE, 2, 2] false, chase 0 .frameDelay [2, 0, 0] [2, 0, 0] false],
      s.Coherent ∧ s.Running := by decide
theorem witness_ChstepNetEffect :
    (chase 2 .check [0, 0, 0] [0, 0, 0xFE] false).Coherent ∧ (chase 2 .check [0, 0, 0] [0, 0, 0xFE] false).Running
      ∧ (chase 2 .check [0, 0, 0] [0, 0, 0xFE] false).phase = .check := by decide
theorem witness_FrameReturnsToItsStart :
    State.reset.Coherent ∧ State.reset.Running ∧ State.reset.phase = .check ∧ State.reset.scanIdx = 0
      ∧ ¬((chase 1 .check [0, 0, 0] [2, 0, 0] false).phase = .check
          ∧ (chase 1 .check [0, 0, 0] [2, 0, 0] false).scanIdx = 0) := by decide

/-- The premises of the reversal statement for boundary channel `e`. -/
abbrev ReversalPremises (s : State) (e : Nat) : Prop :=
  s.Coherent ∧ s.Running ∧ s.phase = .check ∧ s.scanIdx = 0
    ∧ ((s.direction = false ∧ e = s.cfg.n - 1) ∨ (s.direction = true ∧ e = 0))
    ∧ (∀ j, j < s.cfg.n → s.readBrightness j = 0)
    ∧ (∀ j, j < s.cfg.n → j ≠ e → s.readIncrement j = 0)
    ∧ (s.readIncrement e).toInt < 0

/-- V2 frames 14 and 30: both ends. -/
theorem witness_ReversalAtTheBoundary :
    ReversalPremises (chase 0 .check [0, 0, 0] [0, 0, 0xFE] false) 2
      ∧ ReversalPremises (chase 0 .check [0, 0, 0] [0xFE, 0, 0] true) 0 := by decide

/-- V7's configuration (3, 10, 9, 2), valid and not live. -/
theorem witness_NoHandoffWithoutLiveConfiguration :
    let s : State := { chase 0 .check [8, 0, 0] [2, 0, 0] false with cfg := { Config.cfgA with startThreshold := 9 } }
    s.Coherent ∧ s.OnGrid ∧ s.cfg.Valid ∧ s.cfg.handoffPolicy = .ge ∧ ¬ s.cfg.Live
      ∧ (nextState? (exec .chk s)).isSome = true := by decide
theorem witness_EachElementHasItsOwnWriters :
    (∃ t, exec .tick State.reset = .next t) ∧ (∃ t, exec .chk State.reset = .next t)
      ∧ ∃ t, exec (.wrb 0 1) bare = .next t := ⟨⟨_, rfl⟩, ⟨_, rfl⟩, _, rfl⟩
theorem witness_DirectionChangesOnlyAtReversal :
    (chase 2 .check [0, 0, 0] [0, 0, 0xFE] false).Coherent
      ∧ (nextState? (exec .chk (chase 2 .check [0, 0, 0] [0, 0, 0xFE] false))).map State.direction = some true := by
  decide
theorem witness_ConfigurationNeverChanges : ∃ t, step (State.reset.pushEvent 0x030000) = .next t := ⟨_, rfl⟩
theorem witness_CoherenceKeptByEveryStep :
    (State.reset.pushEvent 0x100000).Coherent ∧ ∃ t, step (State.reset.pushEvent 0x100000) = .next t := ⟨by decide, _, rfl⟩
theorem witness_BrightnessLawKeptByEveryStep :
    let s := (chase 2 .integrate [8, 8, 2] [0xFE, 2, 2] false).pushEvent 0x120000
    s.Coherent ∧ s.cfg.wrapperPresent = true ∧ s.cfg.Valid ∧ s.OnGrid ∧ (nextState? (step s)).isSome = true := by decide
theorem witness_BrightnessNeverExceedsMaximum :
    Config.cfgA.wrapperPresent = true ∧ Config.cfgA.Valid
      ∧ (nextState? (runOps [.chk, .tick, .int] (State.resetFor Config.cfgA []))).isSome = true := by decide
theorem witness_TickAndMainStepCommute :
    Instr.int ≠ .rst ∧ midCycle.tickCounter ≠ 255 ∧ (engine 255 [] [] []).tickCounter = 255
      ∧ Instr.chk ≠ .rst ∧ Instr.chk ≠ .int := by decide

end Sys2Proof.Tests
end

