-- ==== Sys2Proof/Proofs/Scope.lean ====
section
/-! PROOF. 00_scope.md: the configuration under every operation and under every step. -/

namespace Sys2Proof.Machine

@[simp] theorem integrateChannel_cfg (i : Nat) (s : State) : (integrateChannel i s).cfg = s.cfg := by
  rw [integrateChannel_eq]

/-- Every operation, RST included, completes with the configuration it started from: each next state is an update
of other fields, and RST takes its reset values from the configuration it keeps. -/
theorem exec_keeps_cfg {i : Instr} {s t : State} (h : exec i s = .next t) : t.cfg = s.cfg := by
  cases i with
  | tick =>
    rw [exec_tick] at h
    cases h
    exact engineTick_cfg s
  | wrb ch data =>
    obtain ⟨-, -, rfl⟩ := (exec_wrb_eq_next ch data s t).mp h
    exact State.writeBrightness_cfg s ch.toNat data
  | rst =>
    rw [exec_rst] at h
    cases h
    exact State.resetFor_cfg s.cfg s.inbox
  | chk =>
    obtain ⟨-, -, rfl⟩ := (exec_chk_eq_next s t).mp h
    exact checkChannel_cfg s.scanIdx s
  | pau =>
    obtain ⟨-, rfl⟩ := (exec_pau_eq_next s t).mp h
    exact State.setPhase_cfg s .integrate
  | int =>
    obtain ⟨-, -, rfl⟩ := (exec_int_eq_next s t).mp h
    exact integrateChannel_cfg s.scanIdx s
  | fdl =>
    obtain ⟨-, rfl⟩ := (exec_fdl_eq_next s t).mp h
    exact State.setPhase_cfg s .check

/-- Settles O44: a step holds the whole state, or fetches an event, which leaves the configuration, and runs its
operation. -/
theorem configurationNeverChanges : Obligations.ConfigurationNeverChanges := by
  intro s t h
  obtain ⟨-, rfl⟩ | ⟨_, rest, _, -, -, hexec⟩ := (step_eq_next s t).mp h
  · rfl
  · calc
      t.cfg = { s with inbox := rest }.cfg := exec_keeps_cfg hexec
      _ = s.cfg := rfl

end Sys2Proof.Machine
end

section
/-! PROOF. 10_state.md: what writes `Direction` (R24), and the range of `Brightness` from reset on (R31). -/

namespace Sys2Proof.Machine

/-! ### The tests of CHK's step 3 -/

theorem completes_iff (i : Nat) (s : State) :
    completes i s = true ↔ s.readBrightness i = 0 ∧ (s.readIncrement i).toInt < 0 := by
  simp [completes, fadingDown_iff]

theorem reverses_iff (i : Nat) (s : State) :
    reverses i s = true ↔ completes i s = true ∧ isBoundary s.cfg s.direction i = true := by
  simp [reverses]

theorem scanIdx_eq_of_isBoundary {c : Config} {d : Bool} {i : Nat} (h : isBoundary c d i = true) :
    i = if d then 0 else c.n - 1 := by
  obtain ⟨rfl, hi⟩ | ⟨rfl, hi⟩ := (isBoundary_iff c d i).mp h
  · exact Nat.eq_sub_of_add_eq hi
  · exact hi

/-! ### The state between the steps of CHK, seen from the channel being checked -/

theorem peakStep_readIncrement_self {i : Nat} {s : State} (hi : i < s.increment.length) :
    (peakStep i s).readIncrement i =
      if atPeak s.cfg (s.readBrightness i) then minusStep s.cfg else s.readIncrement i := by
  unfold peakStep
  split
  · simp [readIncrement_writeIncrement, hi]
  · rfl

/-- A handoff seeds another channel: the next one in either direction is not the channel itself. -/
theorem handoffStep_readIncrement_self (i : Nat) (s : State) :
    (handoffStep i s).readIncrement i = s.readIncrement i := by
  unfold handoffStep
  split
  · cases hk : nextChannel s.cfg s.direction i with
    | none => rfl
    | some k =>
      have hne : i ≠ k := by
        have := (nextChannel_eq_some s.cfg s.direction i k).mp hk
        omega
      simp [readIncrement_writeIncrement, hne]
  · rfl

theorem completionStep_readIncrement_self {i : Nat} {s : State} (hi : i < s.increment.length) :
    (completionStep i s).readIncrement i =
      if reverses i s then plusStep s.cfg else if completes i s then 0 else s.readIncrement i := by
  unfold completionStep
  split
  · simp [readIncrement_writeIncrement, hi]
  · split
    · simp [readIncrement_writeIncrement, hi]
    · rfl

/-- The state that step 3 of CHK works on: peak detection and handoff are done (R116). -/
def beforeCompletion (i : Nat) (s : State) : State := handoffStep i (peakStep i s)

theorem checkChannel_eq (i : Nat) (s : State) :
    checkChannel i s =
      (completionStep i (beforeCompletion i s)).setPhase
        (if reverses i (beforeCompletion i s) then .pause else .integrate) := rfl

@[simp] theorem beforeCompletion_cfg (i : Nat) (s : State) : (beforeCompletion i s).cfg = s.cfg := by
  simp [beforeCompletion, handoffStep_eq, peakStep_eq]
@[simp] theorem beforeCompletion_direction (i : Nat) (s : State) :
    (beforeCompletion i s).direction = s.direction := by
  simp [beforeCompletion, handoffStep_eq, peakStep_eq]
@[simp] theorem beforeCompletion_readBrightness (i j : Nat) (s : State) :
    (beforeCompletion i s).readBrightness j = s.readBrightness j := by
  simp [beforeCompletion, handoffStep_eq, peakStep_eq, State.readBrightness]
@[simp] theorem beforeCompletion_increment_length (i : Nat) (s : State) :
    (beforeCompletion i s).increment.length = s.increment.length := by
  simp only [beforeCompletion, handoffStep_eq, peakStep_eq]
  repeat' split
  all_goals simp

theorem beforeCompletion_readIncrement_self {i : Nat} {s : State} (hi : i < s.increment.length) :
    (beforeCompletion i s).readIncrement i =
      if atPeak s.cfg (s.readBrightness i) then minusStep s.cfg else s.readIncrement i := by
  rw [beforeCompletion, handoffStep_readIncrement_self, peakStep_readIncrement_self hi]

theorem checkChannel_direction (i : Nat) (s : State) :
    (checkChannel i s).direction =
      if reverses i (beforeCompletion i s) then !s.direction else s.direction := by
  simp [checkChannel_eq, completionStep_eq]

/-- What CHK leaves in the increment of the channel it checks: its step 3 decides last. -/
theorem checkChannel_readIncrement_self {i : Nat} {s : State} (hi : i < s.increment.length) :
    (checkChannel i s).readIncrement i =
      if reverses i (beforeCompletion i s) then plusStep s.cfg
      else if completes i (beforeCompletion i s) then 0
      else if atPeak s.cfg (s.readBrightness i) then minusStep s.cfg
      else s.readIncrement i := by
  have hi' : i < (beforeCompletion i s).increment.length := by simpa using hi
  calc (checkChannel i s).readIncrement i
      = (completionStep i (beforeCompletion i s)).readIncrement i := rfl
    _ = _ := by
      rw [completionStep_readIncrement_self hi', beforeCompletion_cfg, beforeCompletion_readIncrement_self hi]

/-! ### R24: the writers of `Direction` -/

@[simp] theorem integrateChannel_direction (i : Nat) (s : State) :
    (integrateChannel i s).direction = s.direction := by
  rw [integrateChannel_eq]

/-- Apart from reset, only CHK writes `Direction`, and only where step 3 processes a reversal. -/
theorem exec_direction_changed {i : Instr} {s t : State} (h : exec i s = .next t) (hrst : i ≠ .rst)
    (hne : t.direction ≠ s.direction) :
    i = .chk ∧ s.hasChannel s.scanIdx = true ∧ t = checkChannel s.scanIdx s
      ∧ reverses s.scanIdx (beforeCompletion s.scanIdx s) = true := by
  cases i with
  | tick =>
    rw [exec_tick] at h
    cases h
    exact absurd (engineTick_direction s) hne
  | wrb ch data =>
    obtain ⟨-, -, rfl⟩ := (exec_wrb_eq_next ch data s t).mp h
    exact absurd rfl hne
  | rst => exact absurd rfl hrst
  | chk =>
    obtain ⟨-, hchan, rfl⟩ := (exec_chk_eq_next s t).mp h
    refine ⟨rfl, hchan, rfl, ?_⟩
    by_contra hrev
    exact hne (by rw [checkChannel_direction, if_neg hrev])
  | pau =>
    obtain ⟨-, rfl⟩ := (exec_pau_eq_next s t).mp h
    exact absurd rfl hne
  | int =>
    obtain ⟨-, -, rfl⟩ := (exec_int_eq_next s t).mp h
    exact absurd (integrateChannel_direction s.scanIdx s) hne
  | fdl =>
    obtain ⟨-, rfl⟩ := (exec_fdl_eq_next s t).mp h
    exact absurd rfl hne

/-- Settles O43: a change of direction is a reversal of CHK, whose test gives the brightness and the boundary and
whose writes give the direction, the phase and the seed. -/
theorem directionChangesOnlyAtReversal : Obligations.DirectionChangesOnlyAtReversal := by
  intro i s t _ h hrst hne
  obtain ⟨rfl, hchan, rfl, hrev⟩ := exec_direction_changed h hrst hne
  obtain ⟨hi, -, hlen⟩ := (hasChannel_iff s s.scanIdx).mp hchan
  obtain ⟨hcomp, hbound⟩ := (reverses_iff _ _).mp hrev
  obtain ⟨hzero, -⟩ := (completes_iff _ _).mp hcomp
  rw [beforeCompletion_readBrightness] at hzero
  rw [beforeCompletion_cfg, beforeCompletion_direction] at hbound
  refine ⟨rfl, ?_, ?_, hzero, scanIdx_eq_of_isBoundary hbound, ?_⟩
  · rw [checkChannel_direction, if_pos hrev]
  · rw [checkChannel_eq, State.setPhase_phase, if_pos hrev]
  · rw [checkChannel_readIncrement_self (by omega), if_pos hrev]

/-! ### The values of the grid (R126) -/

/-- The three values an increment takes from reset on: 0 and the two signed steps. -/
abbrev StepValue (c : Config) (v : Byte) : Prop := v = 0 ∨ v = plusStep c ∨ v = minusStep c

/-- A brightness on the grid: a multiple of the step, at most the maximum. -/
abbrev GridValue (c : Config) (b : Byte) : Prop := b.toNat % c.fadeStep = 0 ∧ b.toNat ≤ c.maxBright

/-- A channel that is ready for INT turns at both ends: a peak fades down and a zero does not. -/
abbrev TurnsAtEnds (c : Config) (b inc : Byte) : Prop :=
  (b.toNat = c.maxBright → inc = minusStep c) ∧ (b.toNat = 0 → inc ≠ minusStep c)

theorem onGrid_iff (s : State) :
    s.OnGrid ↔ (∀ b ∈ s.brightness, GridValue s.cfg b) ∧ (∀ v ∈ s.increment, StepValue s.cfg v)
      ∧ ((s.phase = .integrate ∨ s.phase = .pause) →
          TurnsAtEnds s.cfg (s.readBrightness s.scanIdx) (s.readIncrement s.scanIdx)) := Iff.rfl

theorem forall_mem_set {α : Type} {P : α → Prop} {l : List α} {v : α} (hl : ∀ x ∈ l, P x) (hv : P v) (i : Nat) :
    ∀ x ∈ l.set i v, P x := by
  intro x hx
  obtain hx | rfl := List.mem_or_eq_of_mem_set hx
  · exact hl x hx
  · exact hv

theorem readBrightness_mem {s : State} {i : Nat} (hi : i < s.brightness.length) :
    s.readBrightness i ∈ s.brightness := by
  simp [State.readBrightness, hi]

theorem readIncrement_mem {s : State} {i : Nat} (hi : i < s.increment.length) :
    s.readIncrement i ∈ s.increment := by
  simp [State.readIncrement, hi]

section
variable {c : Config} (hw : c.wrapperPresent = true) (hv : c.Valid)
include hw hv

theorem minusStep_toInt_neg : (minusStep c).toInt < 0 := by
  obtain ⟨-, hwrap⟩ := hv
  obtain ⟨-, ⟨hS1, hS127⟩, -⟩ := hwrap hw
  rw [minusStep_toInt hS127]
  omega

theorem plusStep_ne_minusStep : plusStep c ≠ minusStep c := by
  obtain ⟨-, hwrap⟩ := hv
  obtain ⟨-, ⟨hS1, hS127⟩, -⟩ := hwrap hw
  intro h
  have := congrArg BitVec.toInt h
  rw [plusStep_toInt hS127, minusStep_toInt hS127] at this
  omega

theorem zero_ne_minusStep : (0 : Byte) ≠ minusStep c := by
  intro h
  exact absurd (h ▸ minusStep_toInt_neg hw hv) (by decide)

/-- The arithmetic of R126: between two multiples of the step there is room for a whole step, so adding one stops at
the maximum at the latest and taking one away stops at 0 at the latest. -/
theorem gridValue_add {b inc : Byte} (hb : GridValue c b) (hinc : StepValue c inc)
    (hturn : TurnsAtEnds c b inc) : GridValue c (b + inc) := by
  obtain ⟨hmod, hle⟩ := hb
  obtain ⟨hpeak, hzero⟩ := hturn
  have hne := plusStep_ne_minusStep hw hv
  obtain ⟨-, hwrap⟩ := hv
  obtain ⟨⟨hmax, -⟩, ⟨hS1, hS127⟩, ⟨-, hm255⟩, -⟩ := hwrap hw
  have hdvd : c.fadeStep ∣ b.toNat := Nat.dvd_of_mod_eq_zero hmod
  obtain rfl | rfl | rfl := hinc
  · simpa using ⟨hmod, hle⟩
  · have hlt : b.toNat < c.maxBright := lt_of_le_of_ne hle fun h => hne (hpeak h)
    have hroom : c.fadeStep ≤ c.maxBright - b.toNat :=
      Nat.le_of_dvd (by omega) (Nat.dvd_sub (Nat.dvd_of_mod_eq_zero hmax) hdvd)
    have hsum : (b + plusStep c).toNat = b.toNat + c.fadeStep := by
      rw [BitVec.toNat_add, plusStep_toNat hS127]
      omega
    rw [GridValue, hsum, Nat.add_mod_right]
    exact ⟨hmod, by omega⟩
  · have hroom : c.fadeStep ≤ b.toNat :=
      Nat.le_of_dvd (Nat.pos_of_ne_zero fun h => hzero h rfl) hdvd
    have hdiff : (b + minusStep c).toNat = b.toNat - c.fadeStep := by
      rw [BitVec.toNat_add, minusStep_toNat hS127]
      omega
    rw [GridValue, hdiff, ← Nat.mod_eq_sub_mod hroom]
    exact ⟨hmod, by omega⟩

end

/-! ### R126: every operation keeps the grid -/

/-- The steps of CHK write no increment but a step value. -/
theorem checkChannel_stepValues {s : State} (i : Nat) (h : ∀ v ∈ s.increment, StepValue s.cfg v) :
    ∀ v ∈ (checkChannel i s).increment, StepValue s.cfg v := by
  have hpeak : ∀ v ∈ (peakStep i s).increment, StepValue s.cfg v := by
    rw [peakStep_eq]
    dsimp only
    split
    · exact forall_mem_set h (.inr (.inr rfl)) i
    · exact h
  have hhand : ∀ v ∈ (beforeCompletion i s).increment, StepValue s.cfg v := by
    have hcfg : (peakStep i s).cfg = s.cfg := by rw [peakStep_eq]
    rw [beforeCompletion, handoffStep_eq, hcfg]
    dsimp only
    split
    · split
      · exact forall_mem_set hpeak (.inr (.inl rfl)) _
      · exact hpeak
    · exact hpeak
  rw [checkChannel_eq, State.setPhase_increment, completionStep_eq, beforeCompletion_cfg]
  dsimp only
  split
  · exact forall_mem_set hhand (.inr (.inl rfl)) i
  · split
    · exact forall_mem_set hhand (.inl rfl) i
    · exact hhand

/-- After CHK the checked channel turns at both ends: at the peak step 1 seeds it downwards and step 3 does not
apply, and at 0 step 3 stops it where it was still fading down. -/
theorem checkChannel_turnsAtEnds {i : Nat} {s : State} (hw : s.cfg.wrapperPresent = true) (hv : s.cfg.Valid)
    (hi : i < s.increment.length) :
    TurnsAtEnds s.cfg (s.readBrightness i) ((checkChannel i s).readIncrement i) := by
  have hmax : 1 ≤ s.cfg.maxBright := by
    obtain ⟨-, -, ⟨h, -⟩, -⟩ := hv.2 hw
    exact h
  rw [checkChannel_readIncrement_self hi]
  constructor
  · intro hpeak
    have hcomp : ¬ completes i (beforeCompletion i s) = true := by
      rw [completes_iff, beforeCompletion_readBrightness]
      rintro ⟨hzero, -⟩
      have : (s.readBrightness i).toNat = 0 := congrArg BitVec.toNat hzero
      omega
    have hrev : ¬ reverses i (beforeCompletion i s) = true := by
      rw [reverses_iff]
      exact fun ⟨h, _⟩ => hcomp h
    rw [if_neg hrev, if_neg hcomp, if_pos ((atPeak_iff _ _).mpr hpeak)]
  · intro hzero
    split_ifs with hrev hcomp hpeak
    · exact plusStep_ne_minusStep hw hv
    · exact zero_ne_minusStep hw hv
    · have := (atPeak_iff _ _).mp hpeak
      omega
    · intro hdown
      refine hcomp ((completes_iff _ _).mpr ⟨?_, ?_⟩)
      · rw [beforeCompletion_readBrightness]
        exact BitVec.eq_of_toNat_eq hzero
      · rw [beforeCompletion_readIncrement_self hi, if_neg hpeak, hdown]
        exact minusStep_toInt_neg hw hv

theorem engineTick_onGrid {s : State} (h : s.OnGrid) : (engineTick s).OnGrid := by
  rw [onGrid_iff] at h ⊢
  simpa [State.readBrightness, State.readIncrement] using h

theorem checkChannel_onGrid {s : State} (hw : s.cfg.wrapperPresent = true) (hv : s.cfg.Valid)
    (hchan : s.hasChannel s.scanIdx = true) (h : s.OnGrid) : (checkChannel s.scanIdx s).OnGrid := by
  obtain ⟨hb, hinc, -⟩ := (onGrid_iff s).mp h
  obtain ⟨hi, -, hlen⟩ := (hasChannel_iff s s.scanIdx).mp hchan
  rw [onGrid_iff, checkChannel_cfg, checkChannel_brightness, checkChannel_scanIdx]
  refine ⟨hb, checkChannel_stepValues _ hinc, fun _ => ?_⟩
  have hread : (checkChannel s.scanIdx s).readBrightness s.scanIdx = s.readBrightness s.scanIdx := by
    simp [State.readBrightness]
  rw [hread]
  exact checkChannel_turnsAtEnds hw hv (by omega)

/-- INT moves the scanned channel by one step within the grid, and leaves a phase in which no channel is ready
for INT. -/
theorem integrateChannel_onGrid {s : State} (hw : s.cfg.wrapperPresent = true) (hv : s.cfg.Valid)
    (hphase : s.phase = .integrate) (hchan : s.hasChannel s.scanIdx = true) (h : s.OnGrid) :
    (integrateChannel s.scanIdx s).OnGrid := by
  obtain ⟨hb, hinc, hturn⟩ := (onGrid_iff s).mp h
  obtain ⟨hi, hblen, hilen⟩ := (hasChannel_iff s s.scanIdx).mp hchan
  have hnew : GridValue s.cfg (s.readBrightness s.scanIdx + s.readIncrement s.scanIdx) :=
    gridValue_add hw hv (hb _ (readBrightness_mem (by omega))) (hinc _ (readIncrement_mem (by omega)))
      (hturn (.inl hphase))
  rw [onGrid_iff, integrateChannel_eq]
  refine ⟨forall_mem_set hb hnew _, hinc, fun hready => ?_⟩
  dsimp only at hready
  split at hready <;> simp at hready

/-- PAU keeps a channel that is ready for INT, and FDL leaves none: CHECK is not such a phase. -/
theorem setPhase_onGrid {s : State} {p : Phase} (h : s.OnGrid)
    (hp : p = .integrate ∨ p = .pause → s.phase = .integrate ∨ s.phase = .pause) : (s.setPhase p).OnGrid := by
  obtain ⟨hb, hinc, hturn⟩ := (onGrid_iff s).mp h
  exact ⟨hb, hinc, fun hready => hturn (hp hready)⟩

/-- R126, 'It holds at reset', for every configuration. -/
theorem resetFor_onGrid (c : Config) (inbox : List EventWord) : (State.resetFor c inbox).OnGrid := by
  have hzeros : ∀ x ∈ List.replicate c.n (0 : Byte), x = 0 := fun x hx => List.eq_of_mem_replicate hx
  refine (onGrid_iff _).mpr ⟨fun b hb => ?_, ?_, fun hready => ?_⟩
  · rw [hzeros b hb]
    exact ⟨Nat.zero_mod c.fadeStep, Nat.zero_le c.maxBright⟩
  · exact forall_mem_set (fun x hx => .inl (hzeros x hx)) (.inr (.inl rfl)) 0
  · simp at hready

/-- R126: every operation that completes keeps the brightness law, RST because it establishes it. -/
theorem exec_keeps_brightnessLaw {i : Instr} {s t : State} (h : exec i s = .next t) (hlaw : s.BrightnessLaw) :
    t.BrightnessLaw := by
  intro hw hv
  rw [exec_keeps_cfg h] at hw hv
  have hgrid : s.OnGrid := hlaw hw hv
  cases i with
  | tick =>
    rw [exec_tick] at h
    cases h
    exact engineTick_onGrid hgrid
  | wrb ch data =>
    obtain ⟨⟨-, hbare⟩, -⟩ := (exec_wrb_eq_next ch data s t).mp h
    exact absurd hw (by simp [hbare])
  | rst =>
    rw [exec_rst] at h
    cases h
    exact resetFor_onGrid s.cfg s.inbox
  | chk =>
    obtain ⟨-, hchan, rfl⟩ := (exec_chk_eq_next s t).mp h
    exact checkChannel_onGrid hw hv hchan hgrid
  | pau =>
    obtain ⟨⟨-, hphase⟩, rfl⟩ := (exec_pau_eq_next s t).mp h
    exact setPhase_onGrid hgrid fun _ => .inr hphase
  | int =>
    obtain ⟨⟨-, hphase⟩, hchan, rfl⟩ := (exec_int_eq_next s t).mp h
    exact integrateChannel_onGrid hw hv hphase hchan hgrid
  | fdl =>
    obtain ⟨-, rfl⟩ := (exec_fdl_eq_next s t).mp h
    exact setPhase_onGrid hgrid (by simp)

/-! ### R31: along every trace -/

/-- What every operation keeps, every trace keeps. -/
theorem runOps_keeps {P : State → Prop} (hstep : ∀ {i s t}, exec i s = .next t → P s → P t) {ops : List Instr}
    {s t : State} (h : runOps ops s = .next t) (hs : P s) : P t := by
  induction ops generalizing s with
  | nil =>
    cases h
    exact hs
  | cons i is ih =>
    obtain ⟨u, hu, hrest⟩ := (runOps_cons_eq_next i is s t).mp h
    exact ih hrest (hstep hu hs)

/-- Settles O49: reset establishes the brightness law and every operation keeps it and the configuration, so it
bounds every brightness at the end of the trace. -/
theorem brightnessNeverExceedsMaximum : Obligations.BrightnessNeverExceedsMaximum := by
  intro c inbox ops t hw hv hrun b hb
  have hlaw : t.BrightnessLaw := runOps_keeps exec_keeps_brightnessLaw hrun fun _ _ => resetFor_onGrid c inbox
  have hcfg : t.cfg = c :=
    runOps_keeps (P := fun s => s.cfg = c) (fun h hs => (exec_keeps_cfg h).trans hs) hrun
      (State.resetFor_cfg c inbox)
  subst hcfg
  obtain ⟨hgrid, -⟩ := (onGrid_iff t).mp (hlaw hw hv)
  exact ⟨Nat.zero_le _, (hgrid b hb).2⟩

end Sys2Proof.Machine
end

section
/-! PROOF. 30_encoding.md: the words that denote no operation (R70), and the enabling conditions (R71). -/

namespace Sys2Proof

/-! ### The decoder and the encoder are inverse to each other (R67, R68) -/

theorem decodeWord_encode (i : Instr) : decodeWord (encode i) = .ok i := by
  cases i with
  | wrb ch data => simp [decodeWord, encode, Instr.opcode, decodeFields]
  | tick | rst | chk | pau | int | fdl => rfl

theorem eventWord_eq_encode_of_decodePlain {i j : Instr} {op ch data : Byte} (h : decodePlain i op ch data = .ok j)
    (hi : encode i = eventWord op 0 0) : encode j = eventWord op ch data := by
  obtain ⟨⟨rfl, rfl⟩, rfl⟩ := (decodePlain_eq_ok i j op ch data).mp h
  exact hi

/-- Only an operation's own encoding decodes to it, by the rows of R68 in the decoder's order. -/
theorem encode_of_decodeWord {w : EventWord} {i : Instr} (h : decodeWord w = .ok i) : encode i = w := by
  rw [← eventWord_fields w]
  unfold decodeWord decodeFields at h
  split_ifs at h with htick hwrb hrst hchk hpau hint hfdl
  · exact eventWord_eq_encode_of_decodePlain h (by rw [htick]; rfl)
  · cases h
    rw [hwrb]
    rfl
  · exact eventWord_eq_encode_of_decodePlain h (by rw [hrst]; rfl)
  · exact eventWord_eq_encode_of_decodePlain h (by rw [hchk]; rfl)
  · exact eventWord_eq_encode_of_decodePlain h (by rw [hpau]; rfl)
  · exact eventWord_eq_encode_of_decodePlain h (by rw [hint]; rfl)
  · exact eventWord_eq_encode_of_decodePlain h (by rw [hfdl]; rfl)

theorem decodeWord_eq_ok (w : EventWord) (i : Instr) : decodeWord w = .ok i ↔ encode i = w :=
  ⟨encode_of_decodeWord, fun h => h ▸ decodeWord_encode i⟩

/-- A block's decoder accepts the encodings of its well-formed operations and nothing else. -/
theorem decodeFor_eq_ok (c : Config) (w : EventWord) (i : Instr) :
    decodeFor c w = .ok i ↔ encode i = w ∧ i.wellFormed c = true := by
  rw [← decodeWord_eq_ok]
  unfold decodeFor
  cases decodeWord w with
  | error e => simp
  | ok j =>
    by_cases hwf : j.wellFormed c = true
    · simp only [hwf, if_true, Except.ok.injEq]
      exact ⟨fun h => ⟨h, h ▸ hwf⟩, And.left⟩
    · simp only [hwf, if_false, reduceCtorEq, Except.ok.injEq, false_iff]
      rintro ⟨rfl, h⟩
      exact hwf h

theorem exists_error_iff {ε α : Type} (x : Except ε α) : (∃ e, x = .error e) ↔ ¬ ∃ a, x = .ok a := by
  cases x <;> simp

/-! ### R70: what the legal words are -/

/-- The laws of the encoded fields, for every operation. -/
theorem encode_opField (i : Instr) : Laws.OpField.Statement i := by
  cases i with
  | tick => exact Laws.OpField.tick
  | wrb ch data => exact Laws.OpField.wrb ch data
  | rst => exact Laws.OpField.rst
  | chk => exact Laws.OpField.chk
  | pau => exact Laws.OpField.pau
  | int => exact Laws.OpField.int
  | fdl => exact Laws.OpField.fdl

/-- The seven codes of R68, as R70 counts them. -/
abbrev operationCodes : List Byte := [0x01, 0x02, 0x03, 0x10, 0x11, 0x12, 0x13]

theorem opcode_mem_operationCodes (i : Instr) : i.opcode ∈ operationCodes := by
  cases i <;> simp [Instr.opcode]

/-- Each code but WRB's, with its fields zero, encodes an operation without operands. -/
theorem exists_encode_of_plain_code {op : Byte} (hop : op ∈ operationCodes)
    (hwrb : op ≠ 0x02) (c : Config) : ∃ i, encode i = eventWord op 0 0 ∧ i.wellFormed c = true := by
  simp only [List.mem_cons, List.not_mem_nil, or_false] at hop
  obtain rfl | rfl | rfl | rfl | rfl | rfl | rfl := hop
  · exact ⟨.tick, rfl, rfl⟩
  · exact absurd rfl hwrb
  · exact ⟨.rst, rfl, rfl⟩
  · exact ⟨.chk, rfl, rfl⟩
  · exact ⟨.pau, rfl, rfl⟩
  · exact ⟨.int, rfl, rfl⟩
  · exact ⟨.fdl, rfl, rfl⟩

namespace Machine

theorem not_illegalWord_encode {c : Config} {i : Instr} (h : i.wellFormed c = true) : ¬ IllegalWord c (encode i) := by
  obtain ⟨hop, hzero⟩ := encode_opField i
  rintro (hcode | ⟨hne, hfield⟩ | ⟨hwrb, hch⟩)
  · exact hcode (hop ▸ opcode_mem_operationCodes i)
  · obtain ⟨hch, hdata⟩ := hzero (hop ▸ hne)
    exact hfield.elim (· hch) (· hdata)
  · cases i with
    | wrb ch data =>
      have hlegal : ch.toNat < c.n := of_decide_eq_true h
      rw [encode, eventWord_ch] at hch
      omega
    | tick | rst | chk | pau | int | fdl => exact absurd (hop.symm.trans hwrb) (by decide)

theorem exists_encode_of_not_illegalWord {c : Config} {w : EventWord} (h : ¬ IllegalWord c w) :
    ∃ i, encode i = w ∧ i.wellFormed c = true := by
  obtain ⟨hcode, hfields, hch⟩ := by simpa only [IllegalWord, not_or] using h
  rw [← eventWord_fields w]
  by_cases hwrb : w.op = 0x02
  · have hlegal : w.ch.toNat < c.n := Nat.lt_of_not_le fun hle => hch ⟨hwrb, hle⟩
    exact ⟨.wrb w.ch w.data, by rw [hwrb]; rfl, decide_eq_true hlegal⟩
  · have hzero : w.ch = 0 ∧ w.data = 0 := by
      constructor <;> by_contra hne
      · exact hfields ⟨hwrb, .inl hne⟩
      · exact hfields ⟨hwrb, .inr hne⟩
    rw [hzero.1, hzero.2]
    exact exists_encode_of_plain_code (not_not.mp hcode) hwrb c

theorem decodeFor_error_iff_illegalWord (c : Config) (w : EventWord) :
    (∃ e, decodeFor c w = .error e) ↔ IllegalWord c w := by
  simp only [exists_error_iff, decodeFor_eq_ok]
  constructor
  · intro h
    by_contra hlegal
    exact h (exists_encode_of_not_illegalWord hlegal)
  · rintro h ⟨i, rfl, hwf⟩
    exact not_illegalWord_encode hwf h

/-- A step that fetches a word without a meaning is refused for the decoder's reason. -/
theorem step_eq_refused_of_decodeFor {s : State} {w : EventWord} {rest : List EventWord} {e : DecodeError}
    (hin : s.inbox = w :: rest) (he : decodeFor s.cfg w = .error e) : step s = .refused (.illegalWord e) := by
  simp only [step, fetchEvent_cons hin, he]

/-- Settles O3: the legal words are the encodings of the well-formed operations, and these are what the decoder
accepts; the step passes the decoder's error on. -/
theorem illegalWordsAreRefused : Obligations.IllegalWordsAreRefused := by
  refine ⟨decodeFor_error_iff_illegalWord, fun s w rest hin hillegal => ?_⟩
  obtain ⟨e, he⟩ := (decodeFor_error_iff_illegalWord s.cfg w).mpr hillegal
  exact ⟨e, step_eq_refused_of_decodeFor hin he⟩

/-! ### R71: the enabling conditions -/

/-- A block without channels raises `CF_RANGE` (R141). -/
theorem n_ne_zero_of_faultMask_eq_zero {c : Config} (h : faultMask c = 0) : c.n ≠ 0 := by
  obtain ⟨-, -, hrange⟩ := (faultMask_eq_zero c).mp h
  intro hn
  simp [cfRange, hn] at hrange

theorem hasChannel_of_lt {s : State} {i : Nat} (hs : s.Coherent) (hi : i < s.cfg.n) : s.hasChannel i = true := by
  obtain ⟨hb, hinc, -⟩ := hs
  exact (hasChannel_iff s i).mpr ⟨hi, hb, hinc⟩

/-- While the Chase Controller runs, its channel exists: the only coherent state without one has `N = 0`, which
halts it. -/
theorem hasChannel_scanIdx {s : State} (hs : s.Coherent) (hr : s.Running) : s.hasChannel s.scanIdx = true := by
  obtain ⟨-, -, -, -, -, hscan, -, hfault⟩ := id hs
  have hn : s.cfg.n ≠ 0 := n_ne_zero_of_faultMask_eq_zero (hfault ▸ hr.2)
  exact hasChannel_of_lt hs (hscan.resolve_right fun h => hn h.1)

theorem exec_wrb_enabled_iff {s : State} (hs : s.Coherent) (ch data : Byte) :
    (∃ t, exec (.wrb ch data) s = .next t) ↔ s.cfg.wrapperPresent = false ∧ ch.toNat < s.cfg.n := by
  simp only [exec_wrb_eq_next, exists_and_left, exists_eq, and_true]
  exact ⟨fun ⟨⟨hch, hbare⟩, _⟩ => ⟨hbare, hch⟩, fun ⟨hbare, hch⟩ => ⟨⟨hch, hbare⟩, hasChannel_of_lt hs hch⟩⟩

theorem exec_chk_enabled_iff {s : State} (hs : s.Coherent) :
    (∃ t, exec .chk s = .next t) ↔ s.phase = .check ∧ s.Running := by
  simp only [exec_chk_eq_next, exists_and_left, exists_eq, and_true]
  exact ⟨fun ⟨⟨hr, hp⟩, _⟩ => ⟨hp, hr⟩, fun ⟨hp, hr⟩ => ⟨⟨hr, hp⟩, hasChannel_scanIdx hs hr⟩⟩

theorem exec_int_enabled_iff {s : State} (hs : s.Coherent) :
    (∃ t, exec .int s = .next t) ↔ s.phase = .integrate ∧ s.Running := by
  simp only [exec_int_eq_next, exists_and_left, exists_eq, and_true]
  exact ⟨fun ⟨⟨hr, hp⟩, _⟩ => ⟨hp, hr⟩, fun ⟨hp, hr⟩ => ⟨⟨hr, hp⟩, hasChannel_scanIdx hs hr⟩⟩

theorem exec_pau_enabled_iff (s : State) : (∃ t, exec .pau s = .next t) ↔ s.phase = .pause ∧ s.Running := by
  simp only [exec_pau_eq_next, exists_and_left, exists_eq, and_true]
  exact and_comm

theorem exec_fdl_enabled_iff (s : State) : (∃ t, exec .fdl s = .next t) ↔ s.phase = .frameDelay ∧ s.Running := by
  simp only [exec_fdl_eq_next, exists_and_left, exists_eq, and_true]
  exact and_comm

/-- Settles O36: TICK and RST are total, and each other operation's inversion lemma names its enabling condition;
in a coherent state the channel that WRB, CHK and INT ask for is there. -/
theorem enabledExactlyWhen : Obligations.EnabledExactlyWhen := by
  intro s ch data hs
  exact ⟨⟨_, exec_tick s⟩, ⟨_, exec_rst s⟩, exec_wrb_enabled_iff hs ch data, exec_chk_enabled_iff hs,
    exec_pau_enabled_iff s, exec_int_enabled_iff hs, exec_fdl_enabled_iff s⟩

end Machine

end Sys2Proof
end

section
/-! PROOF. 40_engine_tick.md: what one TICK does to the latches and to each pin bit, at a wrap (R84) and off a wrap
(R85). -/

namespace Sys2Proof.Machine

/-! ### At a wrap: SNAPSHOT, RELOAD, then COMPARE against 0 -/

theorem engineTick_wrap_compareLatch {s : State} (h : s.tickCounter = 255) :
    (engineTick s).compareLatch = s.brightness := by rw [engineTick_wrap h]

@[simp] theorem onesN_length (n : Nat) : (onesN n).length = n := List.length_replicate

theorem onesN_getElem? {n i : Nat} (hi : i < n) : (onesN n)[i]? = some true :=
  List.getElem?_replicate_of_lt hi

theorem engineTick_wrap_pinWord_length {s : State} (h : s.tickCounter = 255) :
    (engineTick s).pinWord.length = s.cfg.n := by
  rw [engineTick_wrap h, clearMatches_length, onesN_length]

/-- The reloaded bit survives the comparison with the wrapped counter unless its new latch is 0. -/
theorem engineTick_wrap_pinWord_getElem? {s : State} (h : s.tickCounter = 255) {i : Nat} (hi : i < s.cfg.n) :
    (engineTick s).pinWord[i]? = some (s.brightness[i]? != some 0) := by
  rw [engineTick_wrap h, clearMatches_getElem?, onesN_getElem? hi, Option.map_some, Bool.true_and]

/-! ### Off a wrap: COMPARE alone -/

theorem engineTick_off_compareLatch {s : State} (h : s.tickCounter ≠ 255) :
    (engineTick s).compareLatch = s.compareLatch := by rw [engineTick_off h]

theorem engineTick_off_pinWord_length {s : State} (h : s.tickCounter ≠ 255) :
    (engineTick s).pinWord.length = s.pinWord.length := by
  rw [engineTick_off h, clearMatches_length]

theorem engineTick_off_pinWord_getElem? {s : State} (h : s.tickCounter ≠ 255) {i : Nat} {b : Bool}
    (hb : s.pinWord[i]? = some b) :
    (engineTick s).pinWord[i]? = some (b && s.compareLatch[i]? != some (engineTick s).tickCounter) := by
  rw [engineTick_off h, clearMatches_getElem?, hb, Option.map_some]

/-- Off a wrap `Brightness` is not read: ticking a state whose brightness was replaced is replacing the brightness of
the ticked state. -/
theorem engineTick_off_with_brightness {s : State} (h : s.tickCounter ≠ 255) (b' : List Byte) :
    engineTick { s with brightness := b' } = { engineTick s with brightness := b' } := by
  have h' : { s with brightness := b' }.tickCounter ≠ 255 := h
  rw [engineTick_off h, engineTick_off h']

/-- Settles O10: TICK is the engine's invocation. What it does to the port, the brightness and the counter is the
same in every state; the latches and the pin bits go by the wrap. -/
theorem tickDrivesCountsSnapshotsCompares : Obligations.TickDrivesCountsSnapshotsCompares := by
  intro s
  refine ⟨engineTick s, exec_tick s, engineTick_outPort s, engineTick_brightness s, ?counter, fun hwrap => ?wrap,
    fun hoff => ?off⟩
  case counter => rw [engineTick_tickCounter, nextTick_toNat]
  case wrap =>
    exact ⟨engineTick_wrap_compareLatch hwrap, engineTick_wrap_pinWord_length hwrap,
      fun _ hi => engineTick_wrap_pinWord_getElem? hwrap hi⟩
  case off =>
    exact ⟨engineTick_off_compareLatch hoff, engineTick_off_pinWord_length hoff,
      fun _ _ hb => engineTick_off_pinWord_getElem? hoff hb,
      fun b' => by rw [exec_tick, engineTick_off_with_brightness hoff]⟩

end Sys2Proof.Machine
end

section
/-! PROOF. 41_brightness_port.md: the effect, the frame and the refusals of WRB (R100). -/

namespace Sys2Proof.Machine

theorem unlessStopped_refuses {stop : Option Refusal} (h : stop ≠ none) (k : Result) :
    ∃ r, unlessStopped stop k = .refused r := by
  cases stop with
  | none => exact absurd rfl h
  | some r => exact ⟨r, rfl⟩

theorem exec_wrb_refused {s : State} {ch : Byte} (h : ¬(s.cfg.wrapperPresent = false ∧ ch.toNat < s.cfg.n))
    (data : Byte) : ∃ r, exec (.wrb ch data) s = .refused r := by
  have hstop : portStop ch s ≠ none := fun hnone => h ((portStop_eq_none ch s).mp hnone).symm
  exact unlessStopped_refuses hstop _

theorem exec_wrb_of_enabled {s : State} {ch : Byte} (hs : s.Coherent) (hbare : s.cfg.wrapperPresent = false)
    (hch : ch.toNat < s.cfg.n) (data : Byte) :
    exec (.wrb ch data) s = .next (s.writeBrightness ch.toNat data) :=
  (exec_wrb_eq_next ..).mpr ⟨⟨hch, hbare⟩, hasChannel_of_lt hs hch, rfl⟩

/-- In a coherent state the latch written is the one read back, and no other. -/
theorem readBrightness_writeBrightness_of_lt {s : State} {i : Nat} (hs : s.Coherent) (hi : i < s.cfg.n) (v : Byte)
    (j : Nat) : (s.writeBrightness i v).readBrightness j = if j = i then v else s.readBrightness j := by
  obtain ⟨hlen, -⟩ := hs
  have hi' : i < s.brightness.length := hlen ▸ hi
  simp only [readBrightness_writeBrightness, hi', and_true]

/-- Settles O21: an enabled WRB is one `writeBrightness`, whose frame is its definition; otherwise the port has a
reason to stop. -/
theorem wrbWritesItsLatchOnly : Obligations.WrbWritesItsLatchOnly := by
  intro s ch data hs
  refine ⟨fun hbare hch => ?enabled, fun hstop => exec_wrb_refused hstop data⟩
  case enabled =>
    refine ⟨s.writeBrightness ch.toNat data, exec_wrb_of_enabled hs hbare hch data, ?frame, ?length, ?reads⟩
    case frame => rfl
    case length => exact List.length_set
    case reads => exact fun j _ => readBrightness_writeBrightness_of_lt hs hch data j

end Sys2Proof.Machine
end

section
/-! PROOF. 42_chase_controller.md: the three branches of CHK (R113 to R115), the integration (R118) and the sequencing
table of the main context (R111). -/

namespace Sys2Proof.Machine

/-! ### What a running Chase Controller knows of its configuration -/

/-- `CF_RANGE` is clear only where the wrapper's parameters are in range (R141). -/
theorem rangesHold_of_faultMask_eq_zero {c : Config} (hw : c.wrapperPresent = true) (h : faultMask c = 0) :
    c.RangesHold := by
  obtain ⟨-, -, hrange⟩ := (faultMask_eq_zero c).mp h
  simp only [cfRange, hw, wrapperRangeFails, Bool.true_and, Bool.or_eq_false_iff, beq_eq_false_iff_ne,
    decide_eq_false_iff_not] at hrange
  obtain ⟨-, ⟨⟨⟨hS0, hS127⟩, hM0⟩, hM255⟩, hT255⟩ := hrange
  omega

theorem State.Running.rangesHold {s : State} (hr : s.Running) (hs : s.Coherent) : s.cfg.RangesHold := by
  obtain ⟨hw, hzero⟩ := hr
  obtain ⟨-, -, -, -, -, -, -, hfault⟩ := hs
  exact rangesHold_of_faultMask_eq_zero hw (hfault ▸ hzero)

theorem State.Running.scanIdx_lt {s : State} (hr : s.Running) (hs : s.Coherent) : s.scanIdx < s.cfg.n :=
  ((hasChannel_iff s s.scanIdx).mp (hasChannel_scanIdx hs hr)).1

/-! ### The outcomes of CHK and INT where they are enabled, and the refusal -/

theorem exec_chk_of_enabled {s : State} (hs : s.Coherent) (hr : s.Running) (hp : s.phase = .check) :
    exec .chk s = .next (checkChannel s.scanIdx s) :=
  (exec_chk_eq_next ..).mpr ⟨⟨hr, hp⟩, hasChannel_scanIdx hs hr, rfl⟩

theorem exec_int_of_enabled {s : State} (hs : s.Coherent) (hr : s.Running) (hp : s.phase = .integrate) :
    exec .int s = .next (integrateChannel s.scanIdx s) :=
  (exec_int_eq_next ..).mpr ⟨⟨hr, hp⟩, hasChannel_scanIdx hs hr, rfl⟩

theorem unlessStopped_chaseStop_refuses {s : State} {p : Phase} (h : ¬(s.phase = p ∧ s.Running)) (k : Result) :
    ∃ r, unlessStopped (chaseStop p s) k = .refused r :=
  unlessStopped_refuses (fun hnone => h ((chaseStop_eq_none p s).mp hnone).symm) k

/-! ### Which of the three steps of CHK take their branch -/

theorem handsOff_iff (i : Nat) (s : State) :
    handsOff i s = true ↔ atThreshold s.cfg (s.readBrightness i) = true ∧ 0 < (s.readIncrement i).toInt := by
  simp [handsOff, fadingUp_iff]

theorem peakStep_of_peak {i : Nat} {s : State} (h : (s.readBrightness i).toNat = s.cfg.maxBright) :
    peakStep i s = s.writeIncrement i (minusStep s.cfg) :=
  if_pos ((atPeak_iff _ _).mpr h)

theorem peakStep_of_not_peak {i : Nat} {s : State} (h : (s.readBrightness i).toNat ≠ s.cfg.maxBright) :
    peakStep i s = s :=
  if_neg fun hpeak => h ((atPeak_iff _ _).mp hpeak)

/-- Step 2 writes nothing where the channel is not fading up. -/
theorem handoffStep_of_not_fadingUp {i : Nat} {s : State} (h : (s.readIncrement i).toInt ≤ 0) :
    handoffStep i s = s :=
  if_neg fun hoff => absurd ((handsOff_iff i s).mp hoff).2 (by omega)

theorem handoffStep_of_next {i k : Nat} {s : State} (hoff : handsOff i s = true)
    (hk : nextChannel s.cfg s.direction i = some k) : handoffStep i s = s.writeIncrement k (plusStep s.cfg) := by
  simp [handoffStep, hoff, hk]

theorem handoffStep_of_no_next {i : Nat} {s : State} (hk : nextChannel s.cfg s.direction i = none) :
    handoffStep i s = s := by
  simp [handoffStep, hk]

theorem nextChannel_eq_none (c : Config) (d : Bool) (i : Nat) :
    nextChannel c d i = none ↔ (d = false ∧ c.n ≤ i + 1) ∨ (d = true ∧ i = 0) := by
  cases d <;> simp [nextChannel]

/-- Where step 3 does not complete the channel, CHK ends with what the first two steps wrote. -/
theorem checkChannel_of_not_completes {i : Nat} {s : State} (h : ¬ completes i (beforeCompletion i s) = true) :
    checkChannel i s = (beforeCompletion i s).setPhase .integrate := by
  have hrev : ¬ reverses i (beforeCompletion i s) = true := fun hrev => h ((reverses_iff _ _).mp hrev).1
  rw [checkChannel_eq, completionStep, if_neg hrev, if_neg h, if_neg hrev]

/-! ### R113: peak detection -/

/-- At the peak step 1 leaves a falling increment, so step 2 does not hand off, and step 3 does not complete because
the peak is not 0. -/
theorem checkChannel_at_peak {i : Nat} {s : State} (hranges : s.cfg.RangesHold) (hi : i < s.increment.length)
    (hpeak : (s.readBrightness i).toNat = s.cfg.maxBright) :
    checkChannel i s = (s.writeIncrement i (minusStep s.cfg)).setPhase .integrate := by
  obtain ⟨⟨-, hS127⟩, ⟨hM1, -⟩, -⟩ := hranges
  have hfalls : ((s.writeIncrement i (minusStep s.cfg)).readIncrement i).toInt ≤ 0 := by
    rw [readIncrement_writeIncrement, if_pos ⟨rfl, hi⟩, minusStep_toInt hS127]
    omega
  have hbefore : beforeCompletion i s = s.writeIncrement i (minusStep s.cfg) := by
    rw [beforeCompletion, peakStep_of_peak hpeak, handoffStep_of_not_fadingUp hfalls]
  have hcomp : ¬ completes i (beforeCompletion i s) = true := by
    rw [completes_iff, beforeCompletion_readBrightness]
    rintro ⟨hzero, -⟩
    have : (s.readBrightness i).toNat = 0 := congrArg BitVec.toNat hzero
    omega
  rw [checkChannel_of_not_completes hcomp, hbefore]

/-- Settles O28: CHK at the peak is step 1's write and the move to INTEGRATE; the range of `S` gives the value. -/
theorem chkTurnsPeakDown : Obligations.ChkTurnsPeakDown := by
  intro s hs hr hp hpeak
  have hranges := hr.rangesHold hs
  obtain ⟨hi, -, hlen⟩ := (hasChannel_iff s s.scanIdx).mp (hasChannel_scanIdx hs hr)
  refine ⟨minusStep s.cfg, minusStep_toInt hranges.1.2, ?_⟩
  rw [exec_chk_of_enabled hs hr hp, checkChannel_at_peak hranges (by omega) hpeak]
  rfl

/-! ### R114: handoff -/

/-- Below the peak a channel that is fading up goes through step 2 alone: step 1 is not taken, and the rising increment,
which the handoff to another channel leaves, keeps step 3 from completing. -/
theorem checkChannel_fading_up {i : Nat} {s : State} (hpeak : (s.readBrightness i).toNat ≠ s.cfg.maxBright)
    (hup : 0 < (s.readIncrement i).toInt) :
    checkChannel i s = (handoffStep i s).setPhase .integrate := by
  have hbefore : beforeCompletion i s = handoffStep i s := by rw [beforeCompletion, peakStep_of_not_peak hpeak]
  have hcomp : ¬ completes i (beforeCompletion i s) = true := by
    rw [hbefore, completes_iff, handoffStep_readIncrement_self]
    rintro ⟨-, hdown⟩
    omega
  rw [checkChannel_of_not_completes hcomp, hbefore]

/-- Settles O29: CHK is the handoff step and the move to INTEGRATE; where the handoff writes is the next channel of the
sweep, by direction and position. -/
theorem chkHandsOff : Obligations.ChkHandsOff := by
  intro s hs hr hp hpeak hup hge heq
  have hlt := hr.scanIdx_lt hs
  have hoff : handsOff s.scanIdx s = true := (handsOff_iff _ _).mpr ⟨(atThreshold_iff _ _).mpr ⟨hge, heq⟩, hup⟩
  have hchk : exec .chk s = .next ((handoffStep s.scanIdx s).setPhase .integrate) := by
    rw [exec_chk_of_enabled hs hr hp, checkChannel_fading_up hpeak hup]
  refine ⟨plusStep s.cfg, plusStep_toInt (hr.rangesHold hs).1.2, fun hd hi => ?up, fun hd hi => ?down,
    fun hd hi => ?lastUp, fun hd hi => ?lastDown⟩
  case up =>
    have hk : nextChannel s.cfg s.direction s.scanIdx = some (s.scanIdx + 1) :=
      (nextChannel_eq_some ..).mpr (.inl ⟨hd, by omega, rfl⟩)
    rw [hchk, handoffStep_of_next hoff hk]
    rfl
  case down =>
    have hk : nextChannel s.cfg s.direction s.scanIdx = some (s.scanIdx - 1) :=
      (nextChannel_eq_some ..).mpr (.inr ⟨hd, hi, rfl⟩)
    rw [hchk, handoffStep_of_next hoff hk]
    rfl
  case lastUp =>
    rw [hchk, handoffStep_of_no_next ((nextChannel_eq_none ..).mpr (.inl ⟨hd, by omega⟩))]
    rfl
  case lastDown =>
    rw [hchk, handoffStep_of_no_next ((nextChannel_eq_none ..).mpr (.inr ⟨hd, hi⟩))]
    rfl

/-! ### R115: completion and reversal -/

/-- On a legal channel that completes, the reversal test is the boundary test in the form R115 words it. -/
theorem reverses_iff_of_completes {i : Nat} {s : State} (hi : i < s.cfg.n) (hcomp : completes i s = true) :
    reverses i s = true ↔ (s.direction = false ∧ i = s.cfg.n - 1) ∨ (s.direction = true ∧ i = 0) := by
  have hlast : i + 1 = s.cfg.n ↔ i = s.cfg.n - 1 := by omega
  rw [reverses_iff, and_iff_right hcomp, isBoundary_iff, hlast]

/-- A dark channel that is fading down is not at the peak and hands nothing off, so step 3 finds the state as it was. -/
theorem beforeCompletion_fading_out {i : Nat} {s : State} (hM : 1 ≤ s.cfg.maxBright) (hzero : s.readBrightness i = 0)
    (hdown : (s.readIncrement i).toInt < 0) : beforeCompletion i s = s := by
  have hpeak : (s.readBrightness i).toNat ≠ s.cfg.maxBright := by
    rw [hzero, BitVec.ofNat_eq_ofNat, BitVec.toNat_zero]
    omega
  rw [beforeCompletion, peakStep_of_not_peak hpeak, handoffStep_of_not_fadingUp hdown.le]

/-- Settles O30: CHK is step 3 on the state as it stands. At the boundary the seed overwrites the 0 of the same CHK. -/
theorem chkCompletesOrReverses : Obligations.ChkCompletesOrReverses := by
  intro s hs hr hp hzero hdown
  obtain ⟨⟨-, hS127⟩, ⟨hM1, -⟩, -⟩ := hr.rangesHold hs
  have hcomp : completes s.scanIdx s = true := (completes_iff _ _).mpr ⟨hzero, hdown⟩
  have hrev := reverses_iff_of_completes (hr.scanIdx_lt hs) hcomp
  have hchk : exec .chk s = .next ((completionStep s.scanIdx s).setPhase
      (if reverses s.scanIdx s then .pause else .integrate)) := by
    rw [exec_chk_of_enabled hs hr hp, checkChannel_eq, beforeCompletion_fading_out hM1 hzero hdown]
  refine ⟨plusStep s.cfg, plusStep_toInt hS127, fun hbound => ?reversal, fun hinner => ?completion⟩
  case reversal =>
    have h : reverses s.scanIdx s = true := hrev.mpr hbound
    rw [hchk, completionStep_eq, if_pos h, if_pos h, if_pos h]
    rfl
  case completion =>
    have h : ¬ reverses s.scanIdx s = true := by
      rw [hrev]
      rintro (⟨hd, hi⟩ | ⟨hd, hi⟩) <;> simp [hd, hi] at hinner
    rw [hchk, completionStep_eq, if_neg h, if_neg h, if_neg h, if_pos hcomp]
    rfl

/-! ### R118: integration -/

/-- INT's work on a legal channel, its last-channel test in the form R118 words it. -/
theorem integrateChannel_eq_of_lt {i : Nat} {s : State} (hi : i < s.cfg.n) :
    integrateChannel i s =
      { s with
        brightness := s.brightness.set i (integrate (s.readBrightness i) (s.readIncrement i))
        scanIdx := if i = s.cfg.n - 1 then 0 else i + 1
        phase := if i = s.cfg.n - 1 then .frameDelay else .check } := by
  have hlast : i + 1 = s.cfg.n ↔ i = s.cfg.n - 1 := by omega
  simp only [integrateChannel_eq, integrate_eq, hlast]

/-- Settles O34: the sum is the block's one addition (R119); outside its phase INT is stopped. -/
theorem intIntegratesAndAdvances : Obligations.IntIntegratesAndAdvances := by
  intro s hs
  refine ⟨fun hp hr => ?enabled, fun hstop => unlessStopped_chaseStop_refuses hstop _⟩
  case enabled =>
    refine ⟨integrate (s.readBrightness s.scanIdx) (s.readIncrement s.scanIdx), integrate_toNat .., ?_⟩
    rw [exec_int_of_enabled hs hr hp, integrateChannel_eq_of_lt (hr.scanIdx_lt hs)]

/-! ### R111: the sequencing table -/

theorem exec_mainOp_enabled_iff {s : State} (hs : s.Coherent) (hr : s.Running) (p : Phase) :
    (∃ t, exec (mainOp p) s = .next t) ↔ s.phase = p := by
  rw [← and_iff_left (a := s.phase = p) hr]
  cases p with
  | check => exact exec_chk_enabled_iff hs
  | pause => exact exec_pau_enabled_iff s
  | integrate => exact exec_int_enabled_iff hs
  | frameDelay => exact exec_fdl_enabled_iff s

theorem mainOp_inj (p q : Phase) : mainOp p = mainOp q ↔ p = q := by
  cases p <;> cases q <;> simp [mainOp]

theorem exists_mainOp_of_mem {i : Instr} (h : i ∈ [Instr.chk, .pau, .int, .fdl]) : ∃ p, i = mainOp p := by
  simp only [List.mem_cons, List.not_mem_nil, or_false] at h
  obtain rfl | rfl | rfl | rfl := h
  · exact ⟨.check, rfl⟩
  · exact ⟨.pause, rfl⟩
  · exact ⟨.integrate, rfl⟩
  · exact ⟨.frameDelay, rfl⟩

/-- MAIN runs the operation of the phase it finds. -/
theorem exec_of_runMain {s t : State} {p : Phase} (h : runMain s = .next t) (hp : s.phase = p) :
    exec (mainOp p) s = .next t := hp ▸ h

/-- Settles O37: each of the four operations belongs to one phase and is enabled in that phase alone; the rows of the
table are the inversion lemmas of the four operations. -/
theorem mainContextFollowsItsTable : Obligations.MainContextFollowsItsTable := by
  intro s hs hr
  have hlt := hr.scanIdx_lt hs
  obtain ⟨t, ht⟩ : ∃ t, runMain s = .next t := (exec_mainOp_enabled_iff hs hr s.phase).mpr rfl
  refine ⟨fun i hi => ?enabled, t, ht, fun hp => ?check, fun hp => ?pause, fun hp hi => ?advance, fun hp hi => ?last,
    fun hp => ?delay⟩
  case enabled =>
    obtain ⟨p, rfl⟩ := exists_mainOp_of_mem hi
    rw [exec_mainOp_enabled_iff hs hr, mainOp_inj]
    exact eq_comm
  case check =>
    obtain ⟨-, -, rfl⟩ := (exec_chk_eq_next s t).mp (exec_of_runMain ht hp)
    exact ⟨checkChannel_scanIdx .., checkChannel_phase ..⟩
  case pause =>
    obtain ⟨-, rfl⟩ := (exec_pau_eq_next s t).mp (exec_of_runMain ht hp)
    exact ⟨rfl, rfl⟩
  case advance =>
    obtain ⟨-, -, rfl⟩ := (exec_int_eq_next s t).mp (exec_of_runMain ht hp)
    rw [integrateChannel_eq_of_lt hlt]
    exact ⟨if_neg hi.ne, if_neg hi.ne⟩
  case last =>
    obtain ⟨-, -, rfl⟩ := (exec_int_eq_next s t).mp (exec_of_runMain ht hp)
    rw [integrateChannel_eq_of_lt hlt]
    exact ⟨if_pos hi, if_pos hi⟩
  case delay =>
    obtain ⟨-, rfl⟩ := (exec_fdl_eq_next s t).mp (exec_of_runMain ht hp)
    obtain ⟨-, -, -, -, -, -, hdelay, -⟩ := hs
    exact ⟨rfl, hdelay hp⟩

end Sys2Proof.Machine
end

section
/-! PROOF. 60_exceptions.md: the causes of the three `ConfigFault` bits (R141, R142), and the operations that leave the
register as it was. -/

namespace Sys2Proof.Machine

/-! ### R141: the cause of each flag -/

theorem cfStep_iff (c : Config) :
    cfStep c = true ↔ c.wrapperPresent = true ∧ c.fadeStep ≠ 0 ∧ c.maxBright % c.fadeStep ≠ 0 := by
  simp [cfStep, and_assoc]

theorem cfThresh_iff (c : Config) :
    cfThresh c = true ↔ c.wrapperPresent = true ∧ c.maxBright ≤ c.startThreshold := by
  simp [cfThresh]

theorem wrapperRangeFails_iff (c : Config) :
    wrapperRangeFails c = true ↔
      c.fadeStep = 0 ∨ 127 < c.fadeStep ∨ c.maxBright = 0 ∨ 255 < c.maxBright ∨ 255 < c.startThreshold := by
  simp [wrapperRangeFails, or_assoc]

theorem cfRange_iff (c : Config) :
    cfRange c = true ↔ c.n = 0 ∨ 256 < c.n ∨ (c.wrapperPresent = true ∧ wrapperRangeFails c = true) := by
  simp [cfRange, or_assoc]

/-! ### R142: a bare engine checks `N` alone -/

theorem cfStep_of_bare {c : Config} (hbare : c.wrapperPresent = false) : cfStep c = false := by
  rw [cfStep, hbare, Bool.false_and, Bool.false_and]

theorem cfThresh_of_bare {c : Config} (hbare : c.wrapperPresent = false) : cfThresh c = false := by
  rw [cfThresh, hbare, Bool.false_and]

theorem cfRange_iff_of_bare {c : Config} (hbare : c.wrapperPresent = false) :
    cfRange c = true ↔ c.n = 0 ∨ 256 < c.n := by
  simp [cfRange_iff, hbare]

/-! ### The writers of the register -/

@[simp] theorem integrateChannel_configFault (i : Nat) (s : State) :
    (integrateChannel i s).configFault = s.configFault := by
  rw [integrateChannel_eq]

/-- No operation but RST writes `ConfigFault`: each next state is an update of other fields. -/
theorem exec_keeps_configFault {i : Instr} {s t : State} (hrst : i ≠ .rst) (h : exec i s = .next t) :
    t.configFault = s.configFault := by
  cases i with
  | tick =>
    rw [exec_tick] at h
    cases h
    exact engineTick_configFault s
  | wrb ch data =>
    obtain ⟨-, -, rfl⟩ := (exec_wrb_eq_next ch data s t).mp h
    exact State.writeBrightness_configFault s ch.toNat data
  | rst => exact absurd rfl hrst
  | chk =>
    obtain ⟨-, -, rfl⟩ := (exec_chk_eq_next s t).mp h
    exact checkChannel_configFault s.scanIdx s
  | pau =>
    obtain ⟨-, rfl⟩ := (exec_pau_eq_next s t).mp h
    exact State.setPhase_configFault s .integrate
  | int =>
    obtain ⟨-, -, rfl⟩ := (exec_int_eq_next s t).mp h
    exact integrateChannel_configFault s.scanIdx s
  | fdl =>
    obtain ⟨-, rfl⟩ := (exec_fdl_eq_next s t).mp h
    exact State.setPhase_configFault s .check

/-- Settles O24: RST raises the mask of the configuration, whose bits are the three flags, and each flag is its cause
under the wrapper. -/
theorem configFaultBitsAreTheirCauses : Obligations.ConfigFaultBitsAreTheirCauses := by
  refine ⟨fun s t h => ?reset, fun i s t hrst h => exec_keeps_configFault hrst h⟩
  rw [exec_rst] at h
  cases h
  obtain ⟨hstep, hthresh, hrange⟩ := faultMask_bits s.cfg
  simp only [State.resetFor_configFault, hstep, hthresh, hrange]
  refine ⟨fun hw => ⟨?step, ?thresh, ?range⟩, fun hbare => ?bare⟩
  case step => rw [cfStep_iff, and_iff_right hw]
  case thresh => rw [cfThresh_iff, and_iff_right hw]
  case range =>
    rw [cfRange_iff, and_iff_right hw, wrapperRangeFails_iff]
    omega
  case bare => exact ⟨cfStep_of_bare hbare, cfThresh_of_bare hbare, cfRange_iff_of_bare hbare⟩

end Sys2Proof.Machine
end

section
/-! PROOF. 30_encoding.md: the encoder against the decoder (R67 to R69) and against the opcode table (R68), and the
trace text (R72). -/

namespace Sys2Proof

/-! ### The round trips -/

theorem decodeBytes_encodeBytes (i : Instr) (rest : List Byte) :
    decodeBytes (encodeBytes i ++ rest) = .ok (i, rest) := by
  rw [encodeBytes, decodeBytes_wordBytes, decodeWord_encode]

/-- Settles O1: the word is decoded by R68's table, the stored bytes are the word's fields, and a well-formed operation
passes the check of its channel. -/
theorem decodeEncodeAgree : Obligations.DecodeEncodeAgree := fun i rest c =>
  ⟨decodeWord_encode i, decodeBytes_encodeBytes i rest, fun hwf => (decodeFor_eq_ok c _ i).mpr ⟨rfl, hwf⟩⟩

/-- Settles O2: it is the decoder's inversion. -/
theorem decodedWordReencodes : Obligations.DecodedWordReencodes := fun _ _ h => encode_of_decodeWord h

/-! ### R68: the rows of the opcode table -/

/-- Masking a word masks its fields. -/
theorem eventWord_and (op ch data op' ch' data' : Byte) :
    eventWord op ch data &&& eventWord op' ch' data' = eventWord (op &&& op') (ch &&& ch') (data &&& data') := by
  calc eventWord op ch data &&& eventWord op' ch' data'
      = ((op ++ ch) &&& (op' ++ ch')) ++ (data &&& data') := BitVec.and_append
    _ = eventWord (op &&& op') (ch &&& ch') (data &&& data') := by rw [BitVec.and_append, eventWord]

theorem eventWord_inj {op ch data op' ch' data' : Byte} :
    eventWord op ch data = eventWord op' ch' data' ↔ op = op' ∧ ch = ch' ∧ data = data' := by
  constructor
  · intro h
    have hop := congrArg EventWord.op h
    have hch := congrArg EventWord.ch h
    have hdata := congrArg EventWord.data h
    simp only [eventWord_op, eventWord_ch, eventWord_data] at hop hch hdata
    exact ⟨hop, hch, hdata⟩
  · rintro ⟨rfl, rfl, rfl⟩
    rfl

/-- A row that fixes every bit matches its own word alone. -/
theorem matchesRow_full (w m : EventWord) : matchesRow w (m, 0xFFFFFF) = true ↔ w = m := by
  have hmask : (0xFFFFFF : EventWord) = BitVec.allOnes 24 := by decide
  rw [matchesRow, hmask, BitVec.and_allOnes, beq_iff_eq]

/-- WRB's row leaves both operands free and fixes the code. -/
theorem matchesRow_wrb (w : EventWord) : matchesRow w (0x020000, 0xFF0000) = true ↔ w.op = 0x02 := by
  have hmask : (0xFF0000 : EventWord) = eventWord (BitVec.allOnes 8) 0 0 := by decide
  have hmatch : (0x020000 : EventWord) = eventWord 0x02 0 0 := by decide
  rw [matchesRow, beq_iff_eq, hmask, hmatch, ← eventWord_fields w, eventWord_and, eventWord_inj, BitVec.and_allOnes]
  simp

theorem exists_encode_wrb_iff (w : EventWord) : (∃ ch data, encode (.wrb ch data) = w) ↔ w.op = 0x02 := by
  constructor
  · rintro ⟨ch, data, rfl⟩
    exact eventWord_op ..
  · intro hop
    exact ⟨w.ch, w.data, by rw [← eventWord_fields w, eventWord_ch, eventWord_data, hop]; rfl⟩

/-- The encodings are what the seven rows match, row by row. -/
theorem exists_encode_iff_matchesRow (w : EventWord) :
    (∃ i, encode i = w) ↔ ∃ row ∈ opcodeRows, matchesRow w row = true := by
  simp only [opcodeRows, List.mem_cons, List.not_mem_nil, or_false, exists_eq_or_imp, exists_eq_left, matchesRow_full,
    matchesRow_wrb, ← exists_encode_wrb_iff]
  constructor
  · rintro ⟨i, rfl⟩
    cases i with
    | tick => exact .inl rfl
    | wrb ch data => exact .inr (.inl ⟨ch, data, rfl⟩)
    | rst => exact .inr (.inr (.inl rfl))
    | chk => exact .inr (.inr (.inr (.inl rfl)))
    | pau => exact .inr (.inr (.inr (.inr (.inl rfl))))
    | int => exact .inr (.inr (.inr (.inr (.inr (.inl rfl)))))
    | fdl => exact .inr (.inr (.inr (.inr (.inr (.inr rfl)))))
  · rintro (rfl | ⟨ch, data, rfl⟩ | rfl | rfl | rfl | rfl | rfl)
    · exact ⟨.tick, rfl⟩
    · exact ⟨.wrb ch data, rfl⟩
    · exact ⟨.rst, rfl⟩
    · exact ⟨.chk, rfl⟩
    · exact ⟨.pau, rfl⟩
    · exact ⟨.int, rfl⟩
    · exact ⟨.fdl, rfl⟩

/-- Every row fixes the `op` field, so the row that matches a word carries the word's code. -/
theorem op_of_matchesRow {w : EventWord} {row : EventWord × EventWord} (hrow : row ∈ opcodeRows)
    (h : matchesRow w row = true) : row.1.op = w.op := by
  simp only [opcodeRows, List.mem_cons, List.not_mem_nil, or_false] at hrow
  obtain rfl | rfl | rfl | rfl | rfl | rfl | rfl := hrow
  case inr.inl => exact ((matchesRow_wrb w).mp h).symm
  all_goals exact congrArg EventWord.op ((matchesRow_full w _).mp h).symm

/-- The codes of the rows are distinct, so at most one row matches. -/
theorem matchingRows_length_le_one (w : EventWord) : (opcodeRows.filter (matchesRow w)).length ≤ 1 := by
  have hcodes : ∀ op ∈ (opcodeRows.filter (matchesRow w)).map (·.1.op), op = w.op := by
    intro op hop
    obtain ⟨row, hrow, rfl⟩ := List.mem_map.mp hop
    obtain ⟨hmem, hmatch⟩ := List.mem_filter.mp hrow
    exact op_of_matchesRow hmem hmatch
  have hnodup : ((opcodeRows.filter (matchesRow w)).map (·.1.op)).Nodup :=
    List.Nodup.sublist (List.filter_sublist.map _) (by decide : (opcodeRows.map (·.1.op)).Nodup)
  rw [List.eq_replicate_of_mem hcodes, List.nodup_replicate, List.length_map] at hnodup
  exact hnodup

/-- Settles O4: what decodes is what an operation encodes to, and that is what a row matches. -/
theorem opcodeRowsDecideDecoding : Obligations.OpcodeRowsDecideDecoding := by
  intro w
  simp only [decodeWord_eq_ok]
  exact ⟨exists_encode_iff_matchesRow w, matchingRows_length_le_one w⟩

/-! ### Words written out -/

/-- Settles O5: each word is the encoding of its operation; at the boundary the channel's check decides. -/
theorem sampleEventWordsDecode : Obligations.SampleEventWordsDecode :=
  ⟨decodeWord_encode .tick, decodeWord_encode (.wrb 2 128), decodeWord_encode (.wrb 0 255), decodeWord_encode .rst,
    decodeWord_encode .chk, decodeWord_encode .pau, decodeWord_encode .int, decodeWord_encode .fdl,
    by decide, (decodeFor_eq_ok ..).mpr ⟨rfl, by decide⟩⟩

/-- Settles O51: RST, WRB 2, 128 and TICK, by evaluation of the parser and the encoder. -/
theorem traceTextExampleEncodes : Obligations.TraceTextExampleEncodes :=
  ⟨[.rst, .wrb 2 128, .tick], by decide, by decide⟩

end Sys2Proof
end

section
/-! PROOF. 20_memory.md: the step and its event (R51), the run over a trace of events, and the order of a TICK and a
main-context operation. The key facts say what the main context cannot see: the engine's state and the events still to
arrive. -/

namespace Sys2Proof.Machine

/-! ### The step -/

theorem decodeFor_of_decodeWord {c : Config} {w : EventWord} {i : Instr} (hw : decodeWord w = .ok i)
    (hwf : i.wellFormed c = true) : decodeFor c w = .ok i :=
  (decodeFor_eq_ok c w i).mpr ⟨(decodeWord_eq_ok w i).mp hw, hwf⟩

theorem step_of_decodeWord {s : State} {w : EventWord} {rest : List EventWord} {i : Instr} (hin : s.inbox = w :: rest)
    (hw : decodeWord w = .ok i) (hwf : i.wellFormed s.cfg = true) : step s = exec i { s with inbox := rest } := by
  simp only [step, fetchEvent_cons hin, decodeFor_of_decodeWord hw hwf]

/-- Settles O6: the fetch answers that word, and the decoder its operation. -/
theorem stepRunsDecodedEvent : Obligations.StepRunsDecodedEvent := fun _ _ _ _ => step_of_decodeWord

/-- Settles O7: with no event to fetch the step holds the state. -/
theorem idleStepHolds : Obligations.IdleStepHolds := fun s hin => (step_eq_next s s).mpr (.inl ⟨hin, rfl⟩)

/-- What the table's bits decode to is what the event word they form decodes to. -/
theorem exists_tableWord_of_decodeTableWord {nbits w : Nat} {i : Instr} (h : decodeTableWord nbits w = some i) :
    ∃ word, tableWord nbits w = some word ∧ decodeWord word = .ok i := by
  unfold decodeTableWord at h
  cases hword : tableWord nbits w with
  | none => simp [hword] at h
  | some word =>
    have hbytes := decodeBytes_wordBytes word []
    rw [List.append_nil] at hbytes
    refine ⟨word, rfl, ?_⟩
    cases hw : decodeWord word with
    | error e => simp [hword, hbytes, hw] at h
    | ok j => simpa [hword, hbytes, hw] using h

/-- Settles O8: the placed word is the oldest event, and without it the state is the one before the placing. -/
theorem placedWordRunsNext : Obligations.PlacedWordRunsNext := by
  intro s nbits w i h hwf
  obtain ⟨word, hword, hdec⟩ := exists_tableWord_of_decodeTableWord h
  have hplaced : s.withFetchWord nbits w = s.pushEvent word := by rw [State.withFetchWord, hword, Option.getD_some]
  rw [hplaced, step_of_decodeWord (State.pushEvent_inbox s word) hdec hwf]
  rfl

/-- What fetching an event and every operation keep, every step keeps. -/
theorem step_keeps {P : State → Prop} (hin : ∀ {s : State} {rest}, P s → P { s with inbox := rest })
    (hexec : ∀ {i s t}, exec i s = .next t → P s → P t) {s t : State} (h : step s = .next t) (hs : P s) : P t := by
  obtain ⟨-, rfl⟩ | ⟨_, _, _, -, -, hrun⟩ := (step_eq_next s t).mp h
  · exact hs
  · exact hexec hrun (hin hs)

/-! ### What the main context does not see -/

/-- The state `s` with the parts that lie outside the main context, the engine's own state and the events still to
arrive, taken from `e`. -/
def State.withOutside (s e : State) : State :=
  { s with
    compareLatch := e.compareLatch
    tickCounter := e.tickCounter
    pinWord := e.pinWord
    outPort := e.outPort
    inbox := e.inbox }

theorem withOutside_self (s : State) : s.withOutside s = s := rfl

@[simp] theorem andThen_assoc (r : Result) (f g : State → Result) :
    andThen (andThen r f) g = andThen r fun s => andThen (f s) g := by
  cases r <;> rfl

theorem andThen_unlessStopped (o : Option Refusal) (r : Result) (k : State → Result) :
    andThen (unlessStopped o r) k = unlessStopped o (andThen r k) := by
  cases o <;> rfl

theorem andThen_onChannel (s : State) (i : Nat) (r : Result) (k : State → Result) :
    andThen (onChannel s i r) k = onChannel s i (andThen r k) := by
  unfold onChannel
  split <;> rfl

theorem peakStep_withOutside (i : Nat) (s e : State) :
    peakStep i (s.withOutside e) = (peakStep i s).withOutside e := by
  rw [peakStep_eq, peakStep_eq]
  rfl

theorem handoffStep_withOutside (i : Nat) (s e : State) :
    handoffStep i (s.withOutside e) = (handoffStep i s).withOutside e := by
  rw [handoffStep_eq, handoffStep_eq]
  rfl

theorem completionStep_withOutside (i : Nat) (s e : State) :
    completionStep i (s.withOutside e) = (completionStep i s).withOutside e := by
  rw [completionStep_eq, completionStep_eq]
  rfl

theorem checkChannel_withOutside (i : Nat) (s e : State) :
    checkChannel i (s.withOutside e) = (checkChannel i s).withOutside e := by
  simp only [checkChannel, peakStep_withOutside, handoffStep_withOutside, completionStep_withOutside]
  rfl

theorem integrateChannel_withOutside (i : Nat) (s e : State) :
    integrateChannel i (s.withOutside e) = (integrateChannel i s).withOutside e := by
  rw [integrateChannel_eq, integrateChannel_eq]
  rfl

/-- A main-context operation neither reads nor writes what lies outside the main context: replacing that before the
operation is replacing it afterwards, refusals and faults included. -/
theorem exec_withOutside {i : Instr} (htick : i ≠ .tick) (hrst : i ≠ .rst) (s e : State) :
    exec i (s.withOutside e) = andThen (exec i s) fun t => .next (t.withOutside e) := by
  cases i with
  | tick => exact absurd rfl htick
  | rst => exact absurd rfl hrst
  | wrb ch data =>
    change execWrb ch data _ = andThen (execWrb ch data s) _
    rw [execWrb, execWrb, andThen_unlessStopped, andThen_onChannel]
    rfl
  | chk =>
    change execChk _ = andThen (execChk s) _
    rw [execChk, execChk, andThen_unlessStopped, andThen_onChannel, checkChannel_withOutside]
    rfl
  | pau =>
    change execPau _ = andThen (execPau s) _
    rw [execPau, execPau, andThen_unlessStopped]
    rfl
  | int =>
    change execInt _ = andThen (execInt s) _
    rw [execInt, execInt, andThen_unlessStopped, andThen_onChannel, integrateChannel_withOutside]
    rfl
  | fdl =>
    change execFdl _ = andThen (execFdl s) _
    rw [execFdl, execFdl, andThen_unlessStopped]
    rfl

/-- The frame of a main-context operation: what lies outside the main context is as before. -/
theorem exec_keeps_outside {i : Instr} (htick : i ≠ .tick) (hrst : i ≠ .rst) {s t : State} (h : exec i s = .next t) :
    t = t.withOutside s := by
  have hself := exec_withOutside htick hrst s s
  rw [withOutside_self, h, andThen_next] at hself
  exact Host.Outcome.next.inj hself

/-- The engine's fields in the frame of a main-context operation. -/
theorem exec_keeps_engine {i : Instr} (htick : i ≠ .tick) (hrst : i ≠ .rst) {s t : State} (h : exec i s = .next t) :
    t.compareLatch = s.compareLatch ∧ t.tickCounter = s.tickCounter ∧ t.pinWord = s.pinWord
      ∧ t.outPort = s.outPort := by
  rw [exec_keeps_outside htick hrst h]
  exact ⟨rfl, rfl, rfl, rfl⟩

/-! ### A run over encoded events -/

theorem engineTick_withInbox (s : State) (rest : List EventWord) :
    engineTick { s with inbox := rest } = { engineTick s with inbox := rest } := by
  by_cases h : s.tickCounter = 255
  · have h' : { s with inbox := rest }.tickCounter = 255 := h
    rw [engineTick_wrap h, engineTick_wrap h']
  · have h' : { s with inbox := rest }.tickCounter ≠ 255 := h
    rw [engineTick_off h, engineTick_off h']

/-- No operation reads or writes the events still to arrive. -/
theorem exec_withInbox (i : Instr) (s : State) (rest : List EventWord) :
    exec i { s with inbox := rest } = andThen (exec i s) fun t => .next { t with inbox := rest } := by
  by_cases htick : i = .tick
  · subst htick
    rw [exec_tick, exec_tick, andThen_next, engineTick_withInbox]
  by_cases hrst : i = .rst
  · subst hrst
    rfl
  calc exec i { s with inbox := rest }
      = andThen (exec i s) fun t => .next (t.withOutside { s with inbox := rest }) :=
        exec_withOutside htick hrst s { s with inbox := rest }
    _ = andThen (exec i s) fun t => .next { t with inbox := rest } := by
        cases h : exec i s with
        | next t =>
          rw [andThen_next, andThen_next, exec_keeps_outside htick hrst h]
          rfl
        | fault r => rfl
        | refused r => rfl

theorem run_succ (n : Nat) (s : State) :
    Host.Core.run Sys2Proof.core (n + 1) s = andThen (step s) (Host.Core.run Sys2Proof.core n) := by
  have hstep : Sys2Proof.core.step s = step s := rfl
  simp only [Host.Core.run, hstep]
  cases step s <;> rfl

theorem run_eventWords (ops : List Instr) (rest : List EventWord) :
    ∀ s : State, (∀ i ∈ ops, i.wellFormed s.cfg = true) →
      Host.Core.run Sys2Proof.core ops.length { s with inbox := eventWords ops ++ rest }
        = runOps ops { s with inbox := rest } := by
  induction ops with
  | nil => exact fun _ _ => rfl
  | cons i is ih =>
    intro s hwf
    obtain ⟨hi, his⟩ := List.forall_mem_cons.mp hwf
    have hstep : step { s with inbox := eventWords (i :: is) ++ rest }
        = exec i { s with inbox := eventWords is ++ rest } :=
      step_of_decodeWord (s := { s with inbox := eventWords (i :: is) ++ rest }) rfl (decodeWord_encode i) hi
    rw [List.length_cons, run_succ, hstep, runOps, exec_withInbox, exec_withInbox i s rest]
    cases h : exec i s with
    | next t => exact ih t (by rwa [exec_keeps_cfg h])
    | fault r => rfl
    | refused r => rfl

/-- Settles O9, by induction on the trace: the oldest event is the first operation's encoding, and that operation does
not see the events behind it. -/
theorem runOfEncodedEventsComposes : Obligations.RunOfEncodedEventsComposes := fun ops s rest =>
  run_eventWords ops rest s

/-! ### A TICK before or after a main-context operation -/

/-- What TICK does lies outside the main context. -/
theorem engineTick_eq_withOutside (s : State) : engineTick s = s.withOutside (engineTick s) := by
  by_cases h : s.tickCounter = 255
  · rw [engineTick_wrap h]
    rfl
  · rw [engineTick_off h]
    rfl

/-- TICK reads nothing of the main context but the configuration, and the brightness at a wrap. -/
theorem engineTick_withOutside {s t : State} (hcfg : t.cfg = s.cfg)
    (hsnap : s.tickCounter ≠ 255 ∨ t.brightness = s.brightness) :
    engineTick (t.withOutside s) = t.withOutside (engineTick s) := by
  by_cases h : s.tickCounter = 255
  · have h' : (t.withOutside s).tickCounter = 255 := h
    have hb : t.brightness = s.brightness := hsnap.resolve_left fun hne => hne h
    rw [engineTick_wrap h, engineTick_wrap h']
    simp only [State.withOutside, hcfg, hb]
  · have h' : (t.withOutside s).tickCounter ≠ 255 := h
    rw [engineTick_off h, engineTick_off h']
    rfl

/-- Only INT and WRB write `Brightness`. -/
theorem exec_keeps_brightness {i : Instr} (hrst : i ≠ .rst) (hint : i ≠ .int) (hwrb : ∀ ch data, i ≠ .wrb ch data)
    {s t : State} (h : exec i s = .next t) : t.brightness = s.brightness := by
  cases i with
  | tick =>
    rw [exec_tick] at h
    cases h
    exact engineTick_brightness s
  | wrb ch data => exact absurd rfl (hwrb ch data)
  | rst => exact absurd rfl hrst
  | chk =>
    obtain ⟨-, -, rfl⟩ := (exec_chk_eq_next s t).mp h
    exact checkChannel_brightness s.scanIdx s
  | pau =>
    obtain ⟨-, rfl⟩ := (exec_pau_eq_next s t).mp h
    exact State.setPhase_brightness s .integrate
  | int => exact absurd rfl hint
  | fdl =>
    obtain ⟨-, rfl⟩ := (exec_fdl_eq_next s t).mp h
    exact State.setPhase_brightness s .check

/-- Settles O50: TICK changes only what the operation does not see, and the operation changes only what this TICK does
not read. -/
theorem tickAndMainStepCommute : Obligations.TickAndMainStepCommute := by
  intro i s hrst hsnap
  by_cases htick : i = .tick
  · rw [htick]
  have htickFirst : runOps [.tick, i] s = andThen (exec i s) fun t => .next (t.withOutside (engineTick s)) := by
    calc runOps [.tick, i] s = andThen (exec i (engineTick s)) .next := rfl
      _ = andThen (exec i (s.withOutside (engineTick s))) .next := by rw [← engineTick_eq_withOutside]
      _ = _ := by
        rw [exec_withOutside htick hrst, andThen_assoc]
        rfl
  have htickLast : runOps [i, .tick] s = andThen (exec i s) fun t => .next (engineTick t) := rfl
  rw [htickFirst, htickLast]
  cases h : exec i s with
  | next t =>
    have hsnap' : s.tickCounter ≠ 255 ∨ t.brightness = s.brightness :=
      hsnap.imp_right fun ⟨hint, hwrb⟩ => exec_keeps_brightness hrst hint hwrb h
    have hticked : engineTick t = t.withOutside (engineTick s) :=
      calc engineTick t = engineTick (t.withOutside s) := by rw [← exec_keeps_outside htick hrst h]
        _ = t.withOutside (engineTick s) := engineTick_withOutside (exec_keeps_cfg h) hsnap'
    rw [andThen_next, andThen_next, hticked]
  | fault r => rfl
  | refused r => rfl

end Sys2Proof.Machine
end

section
/-! PROOF. 10_state.md: the types of the state (R20), the writers of its elements (R20 with 60_exceptions.md R151), and
the brightness law under every step (42_chase_controller.md R126). -/

namespace Sys2Proof.Machine

/-! ### R20: the types -/

theorem resetFor_coherent (c : Config) (inbox : List EventWord) : (State.resetFor c inbox).Coherent := by
  have hscan : 0 < c.n ∨ c.n = 0 ∧ (0 : Nat) = 0 := by omega
  exact ⟨List.length_replicate, List.length_set.trans List.length_replicate, List.length_replicate,
    List.length_replicate, List.length_replicate, hscan, fun _ => rfl, rfl⟩

/-- Settles O46: every reset array has `N` elements and the scan is at channel 0 in CHECK. -/
theorem coherenceAtReset : Obligations.CoherenceAtReset := resetFor_coherent

theorem engineTick_compareLatch_length {s : State} (hs : s.Coherent) : (engineTick s).compareLatch.length = s.cfg.n := by
  obtain ⟨hb, -, hlatch, -⟩ := hs
  by_cases h : s.tickCounter = 255
  · rwa [engineTick_wrap_compareLatch h]
  · rwa [engineTick_off_compareLatch h]

theorem engineTick_pinWord_length {s : State} (hs : s.Coherent) : (engineTick s).pinWord.length = s.cfg.n := by
  obtain ⟨-, -, -, hpin, -⟩ := hs
  by_cases h : s.tickCounter = 255
  · exact engineTick_wrap_pinWord_length h
  · rwa [engineTick_off_pinWord_length h]

theorem engineTick_coherent {s : State} (hs : s.Coherent) : (engineTick s).Coherent := by
  have hlatch := engineTick_compareLatch_length hs
  have hpin := engineTick_pinWord_length hs
  obtain ⟨hb, hinc, -, hout, -, hscan, hdelay, hfault⟩ := hs
  simpa only [State.Coherent, engineTick_brightness, engineTick_increment, engineTick_outPort, engineTick_scanIdx,
    engineTick_phase, engineTick_configFault, engineTick_cfg]
    using ⟨hb, hinc, hlatch, hpin, hout, hscan, hdelay, hfault⟩

theorem writeBrightness_coherent {s : State} (hs : s.Coherent) (i : Nat) (v : Byte) :
    (s.writeBrightness i v).Coherent := by
  obtain ⟨hb, hrest⟩ := hs
  exact ⟨List.length_set.trans hb, hrest⟩

/-- A phase other than the inter-frame delay may begin at any channel. -/
theorem setPhase_coherent {s : State} {p : Phase} (hs : s.Coherent) (hp : p ≠ .frameDelay) :
    (s.setPhase p).Coherent := by
  obtain ⟨hb, hinc, hlatch, hpin, hout, hscan, -, hfault⟩ := hs
  exact ⟨hb, hinc, hlatch, hpin, hout, hscan, fun h => absurd h hp, hfault⟩

theorem checkChannel_coherent {s : State} (hs : s.Coherent) (i : Nat) : (checkChannel i s).Coherent := by
  have hlen := checkChannel_increment_length i s
  have hphase : (checkChannel i s).phase ≠ .frameDelay := by
    obtain ⟨hp, -⟩ | ⟨hp, -⟩ := checkChannel_phase i s <;> simp [hp]
  rw [checkChannel_frame]
  obtain ⟨hb, hinc, hlatch, hpin, hout, hscan, -, hfault⟩ := hs
  exact ⟨hb, hlen.trans hinc, hlatch, hpin, hout, hscan, fun h => absurd h hphase, hfault⟩

/-- After the last channel the scan is at channel 0 in the inter-frame delay; before it, at the next channel. -/
theorem integrateChannel_coherent {s : State} (hs : s.Coherent) {i : Nat} (hi : i < s.cfg.n) :
    (integrateChannel i s).Coherent := by
  obtain ⟨hb, hinc, hlatch, hpin, hout, -, -, hfault⟩ := hs
  rw [integrateChannel_eq]
  refine ⟨List.length_set.trans hb, hinc, hlatch, hpin, hout, ?scan, ?delay, hfault⟩
  case scan =>
    dsimp only
    split_ifs <;> omega
  case delay =>
    dsimp only
    split_ifs <;> simp

theorem exec_keeps_coherent {i : Instr} {s t : State} (h : exec i s = .next t) (hs : s.Coherent) : t.Coherent := by
  cases i with
  | tick =>
    rw [exec_tick] at h
    cases h
    exact engineTick_coherent hs
  | wrb ch data =>
    obtain ⟨-, -, rfl⟩ := (exec_wrb_eq_next ch data s t).mp h
    exact writeBrightness_coherent hs _ _
  | rst =>
    rw [exec_rst] at h
    cases h
    exact resetFor_coherent _ _
  | chk =>
    obtain ⟨-, -, rfl⟩ := (exec_chk_eq_next s t).mp h
    exact checkChannel_coherent hs _
  | pau =>
    obtain ⟨-, rfl⟩ := (exec_pau_eq_next s t).mp h
    exact setPhase_coherent hs (by simp)
  | int =>
    obtain ⟨-, hchan, rfl⟩ := (exec_int_eq_next s t).mp h
    exact integrateChannel_coherent hs ((hasChannel_iff s s.scanIdx).mp hchan).1
  | fdl =>
    obtain ⟨-, rfl⟩ := (exec_fdl_eq_next s t).mp h
    exact setPhase_coherent hs (by simp)

/-- Settles O45: the types do not concern the events, and every operation keeps them. -/
theorem coherenceKeptByEveryStep : Obligations.CoherenceKeptByEveryStep := fun _ _ hs h =>
  step_keeps (P := State.Coherent) id exec_keeps_coherent h hs

/-! ### R126: the brightness law -/

/-- Settles O47: the law does not concern the events, and every operation keeps it. -/
theorem brightnessLawKeptByEveryStep : Obligations.BrightnessLawKeptByEveryStep := fun _ _ _ hlaw h =>
  step_keeps (P := State.BrightnessLaw) id exec_keeps_brightnessLaw h hlaw

/-- Settles O48: reset is on the grid in every configuration, valid or not. -/
theorem brightnessLawAtReset : Obligations.BrightnessLawAtReset := fun c inbox _ _ => resetFor_onGrid c inbox

/-! ### R20 and R151: the single-writer table -/

@[simp] theorem integrateChannel_increment (i : Nat) (s : State) : (integrateChannel i s).increment = s.increment := by
  rw [integrateChannel_eq]

/-- Only CHK writes `Increment` and `Direction`. -/
theorem exec_keeps_increment_direction {i : Instr} (hrst : i ≠ .rst) (hchk : i ≠ .chk) {s t : State}
    (h : exec i s = .next t) : t.increment = s.increment ∧ t.direction = s.direction := by
  cases i with
  | tick =>
    rw [exec_tick] at h
    cases h
    exact ⟨engineTick_increment s, engineTick_direction s⟩
  | wrb ch data =>
    obtain ⟨-, -, rfl⟩ := (exec_wrb_eq_next ch data s t).mp h
    exact ⟨rfl, rfl⟩
  | rst => exact absurd rfl hrst
  | chk => exact absurd rfl hchk
  | pau =>
    obtain ⟨-, rfl⟩ := (exec_pau_eq_next s t).mp h
    exact ⟨rfl, rfl⟩
  | int =>
    obtain ⟨-, -, rfl⟩ := (exec_int_eq_next s t).mp h
    exact ⟨integrateChannel_increment _ s, integrateChannel_direction _ s⟩
  | fdl =>
    obtain ⟨-, rfl⟩ := (exec_fdl_eq_next s t).mp h
    exact ⟨rfl, rfl⟩

/-- Only INT writes `ScanIdx`. -/
theorem exec_keeps_scanIdx {i : Instr} (hrst : i ≠ .rst) (hint : i ≠ .int) {s t : State} (h : exec i s = .next t) :
    t.scanIdx = s.scanIdx := by
  cases i with
  | tick =>
    rw [exec_tick] at h
    cases h
    exact engineTick_scanIdx s
  | wrb ch data =>
    obtain ⟨-, -, rfl⟩ := (exec_wrb_eq_next ch data s t).mp h
    rfl
  | rst => exact absurd rfl hrst
  | chk =>
    obtain ⟨-, -, rfl⟩ := (exec_chk_eq_next s t).mp h
    exact checkChannel_scanIdx _ s
  | pau =>
    obtain ⟨-, rfl⟩ := (exec_pau_eq_next s t).mp h
    rfl
  | int => exact absurd rfl hint
  | fdl =>
    obtain ⟨-, rfl⟩ := (exec_fdl_eq_next s t).mp h
    rfl

/-- Only the four Chase operations write `Phase`. -/
theorem exec_keeps_phase {i : Instr} (hrst : i ≠ .rst) (hchase : i ∉ [Instr.chk, .pau, .int, .fdl]) {s t : State}
    (h : exec i s = .next t) : t.phase = s.phase := by
  cases i with
  | tick =>
    rw [exec_tick] at h
    cases h
    exact engineTick_phase s
  | wrb ch data =>
    obtain ⟨-, -, rfl⟩ := (exec_wrb_eq_next ch data s t).mp h
    rfl
  | rst => exact absurd rfl hrst
  | chk | pau | int | fdl => simp at hchase

/-- Settles O42, element by element. -/
theorem eachElementHasItsOwnWriters : Obligations.EachElementHasItsOwnWriters := fun _ _ _ h hrst =>
  ⟨fun htick => exec_keeps_engine htick hrst h, fun hint hwrb => exec_keeps_brightness hrst hint hwrb h,
    fun hchk => exec_keeps_increment_direction hrst hchk h, fun hint => exec_keeps_scanIdx hrst hint h,
    fun hchase => exec_keeps_phase hrst hchase h, exec_keeps_configFault hrst h⟩

end Sys2Proof.Machine
end

section
/-! PROOF. 40_engine_tick.md: the closed form of the pin word and the output waveform (R88, R89, R95), the loop of the
pseudocode (R81), the lanes (R91), the snapshot period (R92) and the duty (R90). -/

namespace Sys2Proof.Machine

/-! ### TICK and the main context (R81, 60_exceptions.md R148) -/

/-- TICK passes over the fields of the main context it has no business with. -/
theorem engineTick_with_chase (s : State) (inc : List Byte) (dir : Bool) (k : Nat) (p : Phase) (f : BitVec 3) :
    engineTick { s with increment := inc, direction := dir, scanIdx := k, phase := p, configFault := f }
      = { engineTick s with increment := inc, direction := dir, scanIdx := k, phase := p, configFault := f } :=
  calc
    _ = { s with increment := inc, direction := dir, scanIdx := k, phase := p, configFault := f }.withOutside
          (engineTick s) :=
        engineTick_withOutside (s := s)
          (t := { s with increment := inc, direction := dir, scanIdx := k, phase := p, configFault := f }) rfl (.inr rfl)
    _ = _ := by
        rw [engineTick_eq_withOutside]
        rfl

/-- Settles O11: the frame of the engine's invocation, field by field, and that it passes over the replaced fields. -/
theorem tickLeavesMainContextAlone : Obligations.TickLeavesMainContextAlone := by
  intro s t inc dir k p f h
  rw [exec_tick] at h
  cases h
  exact ⟨engineTick_brightness s, engineTick_increment s, engineTick_direction s, engineTick_scanIdx s,
    engineTick_phase s, engineTick_configFault s, engineTick_cfg s, engineTick_inbox s,
    by rw [exec_tick, engineTick_with_chase]⟩

/-! ### R85: the loop over the channels -/

/-- The loop over the first `n` channels clears the matching bits among them and leaves the others. -/
theorem clearMatchesLoop_getElem? (n : Nat) (latch : List Byte) (t : Byte) (w : PinBits) (i : Nat) :
    (clearMatchesLoop n latch t w)[i]? =
      w[i]?.map fun bit => bit && !(decide (i < n) && latch[i]? == some t) := by
  induction n with
  | zero => simp [clearMatchesLoop]
  | succ n ih =>
    have hloop : clearMatchesLoop (n + 1) latch t w =
        if latch[n]? = some t then clearBit (clearMatchesLoop n latch t w) n else clearMatchesLoop n latch t w := by
      rw [clearMatchesLoop, List.range_succ, List.foldl_append]
      rfl
    rw [hloop]
    by_cases hin : i = n
    · subst hin
      split_ifs with hmatch
      · rw [clearBit, List.getElem?_set_self', ih]
        cases w[i]? <;> simp [hmatch]
      · have hmatch' : (latch[i]? == some t) = false := beq_eq_false_iff_ne.mpr hmatch
        rw [ih]
        simp only [hmatch', Bool.and_false]
    · have hlt : i < n + 1 ↔ i < n := by omega
      split_ifs
      · rw [clearBit, List.getElem?_set_ne (Ne.symm hin), ih]
        simp only [hlt]
      · rw [ih]
        simp only [hlt]

/-- Settles O12: bit by bit, the loop over all channels clears what the comparator of that channel clears. -/
theorem compareLoopEqualsLanes : Obligations.CompareLoopEqualsLanes := by
  intro latch t w _
  refine List.ext_getElem? fun i => ?_
  rw [clearMatchesLoop_getElem?, clearMatches_getElem?]
  by_cases hi : i < w.length
  · simp [hi, bne]
  · simp [hi]

/-! ### R91: the lanes -/

/-- Settles O18: at a wrap a lane's new bit and latch come from its brightness, off a wrap from its old bit and latch. -/
theorem lanesAreIndependent : Obligations.LanesAreIndependent := by
  intro s s' t t' i hi hi' hcount hb hlatch hpin h h'
  rw [exec_tick] at h h'
  cases h
  cases h'
  rw [engineTick_outPort, engineTick_outPort]
  by_cases hwrap : s.tickCounter = 255
  · have hwrap' : s'.tickCounter = 255 := hcount ▸ hwrap
    rw [engineTick_wrap_pinWord_getElem? hwrap hi, engineTick_wrap_pinWord_getElem? hwrap' hi',
      engineTick_wrap_compareLatch hwrap, engineTick_wrap_compareLatch hwrap', hb]
    exact ⟨hpin, rfl, rfl⟩
  · have hoff' : s'.tickCounter ≠ 255 := hcount ▸ hwrap
    refine ⟨hpin, ?_, by rwa [engineTick_off_compareLatch hwrap, engineTick_off_compareLatch hoff']⟩
    rw [engineTick_off hwrap, engineTick_off hoff', clearMatches_getElem?, clearMatches_getElem?, hpin, hlatch, hcount]

/-! ### R88 and R89: the closed form and the waveform -/

/-- Comparing a word that is a function of the latches is comparing latch by latch. -/
theorem clearMatches_map (latch : List Byte) (t : Byte) (f : Byte → Bool) :
    clearMatches latch t (latch.map f) = latch.map fun v => f v && v != t := by
  refine List.ext_getElem? fun i => ?_
  rw [clearMatches_getElem?, List.getElem?_map, List.getElem?_map]
  cases latch[i]? with
  | none => rfl
  | some v => simp [bne]

theorem onesN_length_eq_map (latch : List Byte) : onesN latch.length = latch.map fun _ => true :=
  (List.map_const' ..).symm

/-- Off the wrap the counter does not overflow. -/
theorem toNat_succ_of_ne_255 {c : Byte} (h : c ≠ 255) : (c + 1).toNat = c.toNat + 1 := by
  bv_omega

theorem engineTick_off_tickCounter {s : State} (h : s.tickCounter ≠ 255) :
    (engineTick s).tickCounter.toNat = s.tickCounter.toNat + 1 := by
  rw [engineTick_tickCounter, nextTick_eq, toNat_succ_of_ne_255 h]

theorem above_and_ne_succ {c : Byte} (h : c ≠ 255) (v : Byte) :
    (decide (c.toNat < v.toNat) && v != c + 1) = decide ((c + 1).toNat < v.toNat) := by
  rw [Bool.eq_iff_iff, Bool.and_eq_true, bne_iff_ne, decide_eq_true_iff, decide_eq_true_iff]
  bv_omega

theorem ne_zero_eq_above_zero (v : Byte) : (v != 0) = decide ((0 : Byte).toNat < v.toNat) := by
  rw [Bool.eq_iff_iff, bne_iff_ne, decide_eq_true_iff]
  bv_omega

theorem above_eq_waveform_succ (c v : Byte) :
    decide (c.toNat < v.toNat) = decide (1 ≤ (c + 1).toNat ∧ (c + 1).toNat ≤ v.toNat) := by
  rw [decide_eq_decide]
  bv_omega

theorem not_above_255 (v : Byte) : decide ((255 : Byte).toNat < v.toNat) = false := by
  rw [decide_eq_false_iff_not]
  bv_omega

/-- Clearing the latches equal to `c + 1` among those above `c` leaves those above `c + 1`. -/
theorem engineTick_off_pinLaw {s : State} (h : s.tickCounter ≠ 255) (hpin : s.PinLaw) : (engineTick s).PinLaw := by
  rw [State.PinLaw, engineTick_off h, hpin, clearMatches_map]
  exact List.map_congr_left fun v _ => above_and_ne_succ h v

/-- At a wrap, all ones less the latches equal to 0. -/
theorem engineTick_wrap_pinLaw {s : State} (h : s.tickCounter = 255) (hlen : s.brightness.length = s.cfg.n) :
    (engineTick s).PinLaw := by
  rw [State.PinLaw, engineTick_wrap h, ← hlen, onesN_length_eq_map, clearMatches_map]
  exact List.map_congr_left fun v _ => ne_zero_eq_above_zero v

/-- The port shows the old pin word, whose closed form at `c` is the waveform in slot `c + 1`. -/
theorem engineTick_off_portLaw {s : State} (h : s.tickCounter ≠ 255) (hpin : s.PinLaw) : (engineTick s).PortLaw := by
  rw [State.PortLaw, engineTick_off h, hpin]
  exact List.map_congr_left fun v _ => above_eq_waveform_succ _ v

/-- The pin word shown in slot 0 is the one after count 255: no latch is above it, and slot 0 is low. -/
theorem engineTick_wrap_portLaw {s : State} (h : s.tickCounter = 255) (hs : s.Coherent) (hpin : s.PinLaw) :
    (engineTick s).PortLaw := by
  obtain ⟨hb, -, hlatch, -⟩ := hs
  calc (engineTick s).outPort
      = s.compareLatch.map fun v => decide ((255 : Byte).toNat < v.toNat) := by rw [engineTick_outPort, hpin, h]
    _ = List.replicate s.cfg.n false := by simp only [not_above_255, List.map_const', hlatch]
    _ = _ := by
      rw [engineTick_wrap h]
      simp [hb]

theorem engineTick_engineLaw {s : State} (hs : s.EngineLaw) : (engineTick s).EngineLaw := by
  obtain ⟨hcoh, hpin, -⟩ := hs
  refine ⟨engineTick_coherent hcoh, ?_⟩
  by_cases h : s.tickCounter = 255
  · exact ⟨engineTick_wrap_pinLaw h hcoh.1, engineTick_wrap_portLaw h hcoh hpin⟩
  · exact ⟨engineTick_off_pinLaw h hpin, engineTick_off_portLaw h hpin⟩

/-- No latch of 0 is above the counter 0, and slot 0 is low. -/
theorem resetFor_engineLaw (c : Config) (inbox : List EventWord) : (State.resetFor c inbox).EngineLaw :=
  ⟨resetFor_coherent c inbox, by simp [State.PinLaw], by simp [State.PortLaw]⟩

/-- Settles O14: reset leaves latches of 0, the counter at 0 and both words low. -/
theorem engineLawAtReset : Obligations.EngineLawAtReset := resetFor_engineLaw

theorem exec_keeps_pinLaw {i : Instr} (htick : i ≠ .tick) (hrst : i ≠ .rst) {s t : State} (h : exec i s = .next t)
    (hpin : s.PinLaw) : t.PinLaw := by
  obtain ⟨hlatch, hcount, hword, -⟩ := exec_keeps_engine htick hrst h
  rwa [State.PinLaw, hlatch, hcount, hword]

theorem exec_keeps_portLaw {i : Instr} (htick : i ≠ .tick) (hrst : i ≠ .rst) {s t : State} (h : exec i s = .next t)
    (hport : s.PortLaw) : t.PortLaw := by
  obtain ⟨hlatch, hcount, -, hout⟩ := exec_keeps_engine htick hrst h
  rwa [State.PortLaw, hlatch, hcount, hout]

/-- The laws are the engine's: TICK keeps them, RST establishes them, and no other operation touches the engine. -/
theorem exec_keeps_engineLaw {i : Instr} {s t : State} (h : exec i s = .next t) (hs : s.EngineLaw) : t.EngineLaw := by
  by_cases htick : i = .tick
  · subst htick
    rw [exec_tick] at h
    cases h
    exact engineTick_engineLaw hs
  by_cases hrst : i = .rst
  · subst hrst
    rw [exec_rst] at h
    cases h
    exact resetFor_engineLaw _ _
  obtain ⟨hcoh, hpin, hport⟩ := hs
  exact ⟨exec_keeps_coherent h hcoh, exec_keeps_pinLaw htick hrst h hpin, exec_keeps_portLaw htick hrst h hport⟩

/-- Settles O13: the laws do not concern the events, and every operation keeps them. -/
theorem engineLawKeptByEveryStep : Obligations.EngineLawKeptByEveryStep := fun _ _ hs h =>
  step_keeps (P := State.EngineLaw) id exec_keeps_engineLaw h hs

/-- Settles O19: a wrap reloads the pin word whatever it was, and the next TICK, which is off a wrap, needs no more. -/
theorem firstWrapRestoresEngineLaw : Obligations.FirstWrapRestoresEngineLaw := by
  intro s t u hs hwrap ht hu
  rw [exec_tick] at ht hu
  cases ht
  cases hu
  have hpin : (engineTick s).PinLaw := engineTick_wrap_pinLaw hwrap hs.1
  have hoff : (engineTick s).tickCounter ≠ 255 := by
    rw [engineTick_tickCounter, hwrap]
    decide
  exact ⟨hpin, engineTick_coherent (engineTick_coherent hs), engineTick_off_pinLaw hoff hpin,
    engineTick_off_portLaw hoff hpin⟩

/-! ### R92: the counter and the latches along a trace without reset -/

theorem count_tick_cons_of_ne {i : Instr} (h : i ≠ .tick) (is : List Instr) :
    (i :: is).count .tick = is.count .tick :=
  List.count_cons_of_ne h

theorem exec_keeps_tickCounter {i : Instr} (htick : i ≠ .tick) (hrst : i ≠ .rst) {s t : State}
    (h : exec i s = .next t) : t.tickCounter = s.tickCounter := by
  obtain ⟨-, hcount, -⟩ := exec_keeps_engine htick hrst h
  exact hcount

theorem runOps_tickCounter {ops : List Instr} {s t : State} (hrst : .rst ∉ ops) (h : runOps ops s = .next t) :
    t.tickCounter.toNat = (s.tickCounter.toNat + ops.count .tick) % 256 := by
  induction ops generalizing s with
  | nil =>
    cases h
    exact (Nat.mod_eq_of_lt t.tickCounter.isLt).symm
  | cons i is ih =>
    obtain ⟨u, hu, hrest⟩ := (runOps_cons_eq_next i is s t).mp h
    obtain ⟨hi, his⟩ := List.ne_and_not_mem_of_not_mem_cons hrst
    rw [ih his hrest]
    by_cases htick : i = .tick
    · subst htick
      rw [exec_tick] at hu
      cases hu
      rw [engineTick_tickCounter, nextTick_toNat, List.count_cons_self]
      omega
    · rw [exec_keeps_tickCounter htick hi.symm hu, count_tick_cons_of_ne htick]

theorem tickCounter_ne_255_of_lt {s : State} {k : Nat} (h : s.tickCounter.toNat + (k + 1) < 256) :
    s.tickCounter ≠ 255 := by
  intro hwrap
  rw [hwrap] at h
  simp at h
  omega

theorem runOps_compareLatch {ops : List Instr} {s t : State} (hrst : .rst ∉ ops) (h : runOps ops s = .next t)
    (hoff : s.tickCounter.toNat + ops.count .tick < 256) : t.compareLatch = s.compareLatch := by
  induction ops generalizing s with
  | nil =>
    cases h
    rfl
  | cons i is ih =>
    obtain ⟨u, hu, hrest⟩ := (runOps_cons_eq_next i is s t).mp h
    obtain ⟨hi, his⟩ := List.ne_and_not_mem_of_not_mem_cons hrst
    by_cases htick : i = .tick
    · subst htick
      rw [exec_tick] at hu
      cases hu
      rw [List.count_cons_self] at hoff
      have hne : s.tickCounter ≠ 255 := tickCounter_ne_255_of_lt hoff
      have hcount := engineTick_off_tickCounter hne
      rw [ih his hrest (by omega), engineTick_off_compareLatch hne]
    · obtain ⟨hlatch, hcount, -⟩ := exec_keeps_engine htick hi.symm hu
      rw [count_tick_cons_of_ne htick] at hoff
      rw [ih his hrest (by rwa [hcount]), hlatch]

/-- Settles O16: the counter and the latches along the trace, and the wrap that the next TICK then is. -/
theorem snapshotOncePer256Ticks : Obligations.SnapshotOncePer256Ticks := by
  refine ⟨fun s t ops hrst h => ⟨runOps_tickCounter hrst h, runOps_compareLatch hrst h, ?_⟩, State.resetFor_tickCounter⟩
  intro hlast u hu
  have hcount := runOps_tickCounter hrst h
  rw [hlast] at hcount
  have hwrap : t.tickCounter = 255 := BitVec.eq_of_toNat_eq hcount
  rw [exec_tick, engineTick_wrap hwrap] at hu
  cases hu
  exact ⟨rfl, rfl⟩

/-- Settles O17, by induction on the TICKs: none of them is a wrap, and off a wrap TICK does not read `Brightness`. -/
theorem writeUnseenUntilWrap : Obligations.WriteUnseenUntilWrap := by
  intro s t k b' hk h
  induction k generalizing s with
  | zero =>
    cases h
    rfl
  | succ k ih =>
    have hne : s.tickCounter ≠ 255 := tickCounter_ne_255_of_lt hk
    have hcount := engineTick_off_tickCounter hne
    rw [runTicks_succ] at h ⊢
    rw [engineTick_off_with_brightness hne]
    exact ih (engineTick s) (by omega) h

/-! ### R90: the duty -/

theorem portSamples_tick (is : List Instr) (s : State) :
    portSamples (.tick :: is) s = s.pinWord :: portSamples is (engineTick s) := by
  simp [portSamples]

theorem portSamples_of_ne_tick {i : Instr} (htick : i ≠ .tick) {s u : State} (h : exec i s = .next u)
    (is : List Instr) : portSamples (i :: is) s = portSamples is u := by
  simp [portSamples, h, htick]

theorem highSlots_cons (i : Nat) (w : PinBits) (ws : List PinBits) :
    highSlots i (w :: ws) = highSlots i ws + (w.getD i false).toNat := by
  rw [highSlots, highSlots, List.countP_cons]
  cases w.getD i false <;> rfl

theorem getD_map_of_getElem? {latch : List Byte} {i : Nat} {v : Byte} (h : latch[i]? = some v) (f : Byte → Bool) :
    (latch.map f).getD i false = f v := by
  simp [h]

/-- In the slots after count `c` the port is high as long as the slot number does not pass the latch: of the next `m`
slots of the cycle, those from `c + 1` to `min V (c + m)`. -/
theorem portSamples_of_pinLaw {ops : List Instr} {s t : State} {i : Nat} {v : Byte} (hpin : s.PinLaw)
    (hlatch : s.compareLatch[i]? = some v) (hrst : .rst ∉ ops)
    (hcycle : s.tickCounter.toNat + ops.count .tick < 256) (h : runOps ops s = .next t) :
    (portSamples ops s).length = ops.count .tick
    ∧ highSlots i (portSamples ops s) + min v.toNat s.tickCounter.toNat
        = min v.toNat (s.tickCounter.toNat + ops.count .tick) := by
  induction ops generalizing s with
  | nil => exact ⟨rfl, Nat.zero_add _⟩
  | cons j js ih =>
    obtain ⟨u, hu, hrest⟩ := (runOps_cons_eq_next j js s t).mp h
    obtain ⟨hj, hjs⟩ := List.ne_and_not_mem_of_not_mem_cons hrst
    by_cases htick : j = .tick
    · subst htick
      rw [exec_tick] at hu
      cases hu
      rw [List.count_cons_self] at hcycle ⊢
      have hne : s.tickCounter ≠ 255 := tickCounter_ne_255_of_lt hcycle
      have hcount := engineTick_off_tickCounter hne
      obtain ⟨hlen, hhigh⟩ := ih (engineTick_off_pinLaw hne hpin)
        (by rwa [engineTick_off_compareLatch hne]) hjs (by omega) hrest
      have hslot : s.pinWord.getD i false = decide (s.tickCounter.toNat < v.toNat) := by
        rw [hpin, getD_map_of_getElem? hlatch]
      rw [portSamples_tick, List.length_cons, hlen, highSlots_cons, hslot]
      refine ⟨rfl, ?_⟩
      by_cases hlit : s.tickCounter.toNat < v.toNat <;> simp only [hlit, decide_true, decide_false, Bool.toNat_true,
        Bool.toNat_false] <;> omega
    · obtain ⟨hlatch', hcount, -⟩ := exec_keeps_engine htick hj.symm hu
      rw [count_tick_cons_of_ne htick] at hcycle ⊢
      rw [portSamples_of_ne_tick htick hu, ← hcount]
      exact ih (exec_keeps_pinLaw htick hj.symm hu hpin) (by rwa [hlatch']) hjs (by rwa [hcount]) hrest

/-- Settles O52: from counter 0 the 255 slots of the cycle reach past every latch value. -/
theorem firstCycleDutyApartFromSlotZero : Obligations.FirstCycleDutyApartFromSlotZero := by
  intro s t ops i v _ hpin hzero hlatch hrst hcount h
  have hv := v.isLt
  have hstart : s.tickCounter.toNat = 0 := by rw [hzero]; rfl
  obtain ⟨hlen, hhigh⟩ := portSamples_of_pinLaw hpin hlatch hrst (by omega) h
  rw [hstart, hcount] at hhigh
  exact ⟨hlen.trans hcount, by omega⟩

/-- Settles O15: slot 0 is low by the waveform, and the other slots are those of the cycle apart from slot 0. -/
theorem dutyFidelity : Obligations.DutyFidelity := by
  intro s t ops i v ⟨hcoh, hpin, hport⟩ hzero hlatch hrst hcount h
  obtain ⟨hlen, hhigh⟩ := firstCycleDutyApartFromSlotZero s t ops i v hcoh hpin hzero hlatch hrst hcount h
  have hslot : s.outPort.getD i false = false := by
    rw [hport, getD_map_of_getElem? hlatch, hzero]
    rfl
  rw [List.length_cons, hlen, highSlots_cons, hslot, hhigh]
  exact ⟨rfl, rfl⟩

end Sys2Proof.Machine
end

section
/-! PROOF. 00_scope.md, 60_exceptions.md and 70_reset_and_hazards.md: the valid configurations (R11), the reset values
(R34, R35, R37), the dark outputs after reset (R174), the halted block (R142), and a write that meets a wrap
(20_memory.md R57). -/

namespace Sys2Proof.Machine

/-! ### R11: the mask and the valid configurations -/

theorem cfStep_and_cfThresh_clear_iff {c : Config} (hw : c.wrapperPresent = true) (hS : c.fadeStep ≠ 0) :
    (cfStep c = false ∧ cfThresh c = false) ↔ c.Preconditions := by
  rw [← Bool.not_eq_true, ← Bool.not_eq_true, cfStep_iff, cfThresh_iff]
  simp [hw, hS]

/-- The two bounds on `N` are common to all blocks; the wrapper adds its preconditions and ranges. -/
theorem faultMask_eq_zero_iff_valid (c : Config) : faultMask c = 0 ↔ c.Valid := by
  rw [faultMask_eq_zero]
  by_cases hw : c.wrapperPresent = true
  · by_cases hS : c.fadeStep = 0
    · have hrange : cfRange c = true :=
        (cfRange_iff c).mpr (.inr (.inr ⟨hw, (wrapperRangeFails_iff c).mpr (.inl hS)⟩))
      refine iff_of_false (by simp [hrange]) fun ⟨_, hwrap⟩ => ?_
      obtain ⟨-, ⟨hS1, -⟩, -⟩ := hwrap hw
      omega
    · rw [← and_assoc, cfStep_and_cfThresh_clear_iff hw hS, ← Bool.not_eq_true, cfRange_iff, wrapperRangeFails_iff]
      simp only [hw, true_and, true_implies, Config.Valid, Config.RangesHold]
      omega
  · have hbare : c.wrapperPresent = false := Bool.eq_false_iff.mpr hw
    rw [cfStep_of_bare hbare, cfThresh_of_bare hbare, ← Bool.not_eq_true (cfRange c), cfRange_iff_of_bare hbare]
    simp only [Config.Valid, hbare, Bool.false_eq_true, false_implies, and_true, true_and]
    omega

/-- Settles O25: the three flags are clear exactly where the conditions of `CFG_VALID` hold. -/
theorem noFaultExactlyWhenValid : Obligations.NoFaultExactlyWhenValid := faultMask_eq_zero_iff_valid

/-! ### R34, R35, R37: the reset values -/

theorem resetFor_increment_zero (c : Config) (inbox : List EventWord) (hn : 0 < c.n) :
    (State.resetFor c inbox).increment[0]? = some (plusStep c) := by
  simp [hn]

theorem resetFor_increment_of_pos (c : Config) (inbox : List EventWord) {i : Nat} (hi : 1 ≤ i) (hn : i < c.n) :
    (State.resetFor c inbox).increment[i]? = some 0 := by
  rw [State.resetFor_increment, List.getElem?_set_ne (by omega), List.getElem?_replicate_of_lt hn]

/-- Settles O23: RST answers the reset state of the configuration, and its typing gives the lengths. -/
theorem rstEstablishesResetValues : Obligations.RstEstablishesResetValues := by
  intro s
  obtain ⟨hb, hinc, hlatch, hpin, hout, -⟩ := resetFor_coherent s.cfg s.inbox
  refine ⟨State.resetFor s.cfg s.inbox, exec_rst s, fun i hi => ?zeros, fun i => resetFor_increment_of_pos _ _,
    fun hn hS => ⟨plusStep s.cfg, resetFor_increment_zero _ _ hn, plusStep_toInt hS⟩, hb, hinc, hlatch, hpin, hout,
    rfl, rfl, rfl, rfl, rfl, rfl, rfl⟩
  case zeros =>
    simp [hi]

/-- Settles O27: the reset state of the example, written out. -/
theorem resetIsTheExampleReset : Obligations.ResetIsTheExampleReset := by
  refine ⟨?resetFor, rfl, rfl, rfl, rfl, rfl, rfl, rfl, rfl, rfl, rfl⟩
  case resetFor => decide

/-! ### R57: a write and a wrap -/

/-- Settles O22: with the write first the snapshot takes the written brightness, with the TICK first the old one. -/
theorem writeAndWrapInEitherOrder : Obligations.WriteAndWrapInEitherOrder := by
  intro s t u ch data hwrap ht hu
  obtain ⟨_, hwrite, ht⟩ := (runOps_cons_eq_next ..).mp ht
  obtain ⟨-, hchan, rfl⟩ := (exec_wrb_eq_next ..).mp hwrite
  obtain ⟨_, htick, hu⟩ := (runOps_cons_eq_next ..).mp hu
  obtain ⟨_, hwrite', hu⟩ := (runOps_cons_eq_next ..).mp hu
  cases htick
  obtain ⟨-, -, rfl⟩ := (exec_wrb_eq_next ..).mp hwrite'
  cases ht
  cases hu
  obtain ⟨hch, hlen, -⟩ := (hasChannel_iff s ch.toNat).mp hchan
  have hwrap' : (s.writeBrightness ch.toNat data).tickCounter = 255 := hwrap
  simp only [engineTick_wrap_compareLatch hwrap', State.writeBrightness_compareLatch,
    engineTick_wrap_compareLatch hwrap, State.writeBrightness_brightness, engineTick_brightness]
  exact ⟨List.getElem?_set_self (by omega), trivial, trivial, fun j hj => List.getElem?_set_ne (Ne.symm hj)⟩

/-! ### R174: dark outputs after reset -/

/-- Every bit of a pin-level word is low. -/
abbrev AllLow (w : PinBits) : Prop := ∀ b ∈ w, b = false

theorem allLow_replicate (n : Nat) : AllLow (List.replicate n false) := fun _ => List.eq_of_mem_replicate

/-- The comparators only clear bits. -/
theorem clearMatches_allLow {w : PinBits} (hw : AllLow w) (latch : List Byte) (t : Byte) :
    AllLow (clearMatches latch t w) := by
  intro b hb
  obtain ⟨i, hi⟩ := List.mem_iff_getElem?.mp hb
  rw [clearMatches_getElem?, Option.map_eq_some_iff] at hi
  obtain ⟨bit, hbit, rfl⟩ := hi
  rw [hw bit (List.mem_of_getElem? hbit), Bool.false_and]

theorem engineTick_off_pinWord_allLow {s : State} (h : s.tickCounter ≠ 255) (hpin : AllLow s.pinWord) :
    AllLow (engineTick s).pinWord := by
  rw [engineTick_off h]
  exact clearMatches_allLow hpin _ _

/-- A port and a pin word that are dark stay so as long as no TICK follows the next wrap: that wrap reloads the pin word,
and the port shows it only one TICK later. -/
theorem runOps_outPort_allLow {ops : List Instr} {s t : State} (hrst : .rst ∉ ops) (hout : AllLow s.outPort)
    (hpin : ops.count .tick = 0 ∨ AllLow s.pinWord ∧ s.tickCounter.toNat + ops.count .tick ≤ 256)
    (h : runOps ops s = .next t) : AllLow t.outPort := by
  induction ops generalizing s with
  | nil =>
    cases h
    exact hout
  | cons i is ih =>
    obtain ⟨u, hu, hrest⟩ := (runOps_cons_eq_next i is s t).mp h
    obtain ⟨hi, his⟩ := List.ne_and_not_mem_of_not_mem_cons hrst
    by_cases htick : i = .tick
    · subst htick
      rw [exec_tick] at hu
      cases hu
      rw [List.count_cons_self] at hpin
      obtain ⟨hdark, hcycle⟩ := hpin.resolve_left (Nat.succ_ne_zero _)
      refine ih his (by rwa [engineTick_outPort]) ?_ hrest
      by_cases hwrap : s.tickCounter = 255
      · refine .inl ?_
        rw [hwrap] at hcycle
        simp at hcycle
        omega
      · have hcount := engineTick_off_tickCounter hwrap
        exact .inr ⟨engineTick_off_pinWord_allLow hwrap hdark, by omega⟩
    · obtain ⟨-, hcount, hword, hport⟩ := exec_keeps_engine htick hi.symm hu
      rw [count_tick_cons_of_ne htick] at hpin
      exact ih his (by rwa [hport]) (by rwa [hword, hcount]) hrest

/-- Settles O20: reset leaves the port and the pin word dark and the counter at 0, so the 256th TICK is the first wrap. -/
theorem darkForFirst256Ticks : Obligations.DarkForFirst256Ticks := by
  intro c inbox ops t hrst hcount h
  have hstart : (State.resetFor c inbox).tickCounter.toNat = 0 := rfl
  exact runOps_outPort_allLow hrst (allLow_replicate c.n) (.inr ⟨allLow_replicate c.n, by omega⟩) h

/-! ### R142: the halted block -/

/-- Every brightness is 0 and neither the pin word nor the port has a bit set: no TICK lights such a block. -/
abbrev State.Dark (s : State) : Prop :=
  s.brightness = List.replicate s.cfg.n 0 ∧ AllLow s.pinWord ∧ AllLow s.outPort

theorem resetFor_dark (c : Config) (inbox : List EventWord) : (State.resetFor c inbox).Dark :=
  ⟨rfl, allLow_replicate c.n, allLow_replicate c.n⟩

/-- At a wrap every reloaded bit meets its latch of 0 and is cleared at once. -/
theorem engineTick_dark {s : State} (hs : s.Dark) : (engineTick s).Dark := by
  obtain ⟨hb, hpin, hout⟩ := hs
  refine ⟨by rwa [engineTick_brightness, engineTick_cfg], ?_, by rwa [engineTick_outPort]⟩
  by_cases hwrap : s.tickCounter = 255
  · have hlaw : (engineTick s).PinLaw := engineTick_wrap_pinLaw hwrap (by rw [hb, List.length_replicate])
    rw [hlaw, engineTick_wrap_compareLatch hwrap, hb, List.map_replicate, engineTick_tickCounter, hwrap]
    exact allLow_replicate s.cfg.n
  · exact engineTick_off_pinWord_allLow hwrap hpin

/-- Where the Chase Controller does not run, only TICK, RST and a bare engine's WRB go through. -/
theorem exec_of_not_running {i : Instr} {s t : State} (hr : ¬ s.Running) (h : exec i s = .next t) :
    i = .tick ∨ i = .rst ∨ (∃ ch data, i = .wrb ch data) ∧ s.cfg.wrapperPresent = false := by
  cases i with
  | tick => exact .inl rfl
  | rst => exact .inr (.inl rfl)
  | wrb ch data =>
    obtain ⟨⟨-, hbare⟩, -⟩ := (exec_wrb_eq_next ch data s t).mp h
    exact .inr (.inr ⟨⟨ch, data, rfl⟩, hbare⟩)
  | chk =>
    obtain ⟨⟨hrun, -⟩, -⟩ := (exec_chk_eq_next s t).mp h
    exact absurd hrun hr
  | pau =>
    obtain ⟨⟨hrun, -⟩, -⟩ := (exec_pau_eq_next s t).mp h
    exact absurd hrun hr
  | int =>
    obtain ⟨⟨hrun, -⟩, -⟩ := (exec_int_eq_next s t).mp h
    exact absurd hrun hr
  | fdl =>
    obtain ⟨⟨hrun, -⟩, -⟩ := (exec_fdl_eq_next s t).mp h
    exact absurd hrun hr

theorem chaseOps_refused {s : State} (hr : ¬ s.Running) :
    ∀ i ∈ [Instr.chk, .pau, .int, .fdl], ∃ r, exec i s = .refused r := by
  have hstop (p : Phase) (k : Result) : ∃ r, unlessStopped (chaseStop p s) k = .refused r :=
    unlessStopped_chaseStop_refuses (fun ⟨_, hrun⟩ => hr hrun) k
  intro i hi
  simp only [List.mem_cons, List.not_mem_nil, or_false] at hi
  obtain rfl | rfl | rfl | rfl := hi
  · exact hstop .check _
  · exact hstop .pause _
  · exact hstop .integrate _
  · exact hstop .frameDelay _

/-- The main context as reset leaves it, in a block whose outputs are dark. -/
structure AsAfterReset (c : Config) (s : State) : Prop where
  cfg : s.cfg = c
  increment : s.increment = (List.replicate c.n 0).set 0 (plusStep c)
  direction : s.direction = false
  scanIdx : s.scanIdx = 0
  phase : s.phase = .check
  configFault : s.configFault = faultMask c
  dark : s.Dark

theorem resetFor_asAfterReset (c : Config) (inbox : List EventWord) : AsAfterReset c (State.resetFor c inbox) :=
  ⟨rfl, rfl, rfl, rfl, rfl, rfl, resetFor_dark c inbox⟩

theorem engineTick_asAfterReset {c : Config} {s : State} (h : AsAfterReset c s) : AsAfterReset c (engineTick s) where
  cfg := by rw [engineTick_cfg, h.cfg]
  increment := by rw [engineTick_increment, h.increment]
  direction := by rw [engineTick_direction, h.direction]
  scanIdx := by rw [engineTick_scanIdx, h.scanIdx]
  phase := by rw [engineTick_phase, h.phase]
  configFault := by rw [engineTick_configFault, h.configFault]
  dark := engineTick_dark h.dark

theorem AsAfterReset.not_running {c : Config} {s : State} (h : AsAfterReset c s) (hfault : faultMask c ≠ 0) :
    ¬ s.Running := fun ⟨_, hzero⟩ => hfault (h.configFault ▸ hzero)

/-- With the wrapper present a faulted block completes TICK and RST alone, and both leave it as after reset. -/
theorem exec_asAfterReset {c : Config} (hw : c.wrapperPresent = true) (hfault : faultMask c ≠ 0) {i : Instr}
    {s t : State} (h : exec i s = .next t) (hs : AsAfterReset c s) : (i = .tick ∨ i = .rst) ∧ AsAfterReset c t := by
  obtain rfl | rfl | ⟨-, hbare⟩ := exec_of_not_running (hs.not_running hfault) h
  · rw [exec_tick] at h
    cases h
    exact ⟨.inl rfl, engineTick_asAfterReset hs⟩
  · rw [exec_rst, hs.cfg] at h
    cases h
    exact ⟨.inr rfl, resetFor_asAfterReset c _⟩
  · rw [hs.cfg, hw] at hbare
    cases hbare

/-- If `P` allows only operations with `Q`, and these keep `P`, then a trace that completes from `P` holds only
operations with `Q` and ends in `P`. -/
theorem runOps_forall {P : State → Prop} {Q : Instr → Prop} {ops : List Instr}
    (hstep : ∀ i ∈ ops, ∀ {s t}, exec i s = .next t → P s → Q i ∧ P t) {s t : State} (h : runOps ops s = .next t)
    (hs : P s) : (∀ i ∈ ops, Q i) ∧ P t := by
  induction ops generalizing s with
  | nil =>
    cases h
    exact ⟨by simp, hs⟩
  | cons i is ih =>
    obtain ⟨u, hu, hrest⟩ := (runOps_cons_eq_next i is s t).mp h
    obtain ⟨hfirst, hlater⟩ := List.forall_mem_cons.mp hstep
    obtain ⟨hi, hPu⟩ := hfirst hu hs
    obtain ⟨his, hPt⟩ := ih hlater hrest hPu
    exact ⟨List.forall_mem_cons.mpr ⟨hi, his⟩, hPt⟩

/-- Settles O26: along the trace the block is as after reset. -/
theorem configFaultHaltsMainContext : Obligations.ConfigFaultHaltsMainContext := by
  refine ⟨fun c inbox ops t hw hfault h => ?wrapper, fun c hbare => ?bare⟩
  case wrapper =>
    obtain ⟨hops, ht⟩ := runOps_forall (fun _ _ _ _ => exec_asAfterReset hw hfault) h (resetFor_asAfterReset c inbox)
    obtain ⟨hb, -, hout⟩ := ht.dark
    rw [ht.cfg] at hb
    exact ⟨hops, hb, ht.increment, ht.direction, ht.scanIdx, ht.phase, ht.configFault, hout, ⟨_, exec_tick t⟩,
      chaseOps_refused (ht.not_running hfault)⟩
  case bare =>
    rw [Ne, faultMask_eq_zero, cfStep_of_bare hbare, cfThresh_of_bare hbare, gt_iff_lt, ← cfRange_iff_of_bare hbare]
    simp

/-! ### Log 19: the halted bare engine -/

/-- In a bare engine only WRB can write a brightness, so every other operation leaves a dark block dark. -/
theorem exec_keeps_bare_dark {i : Instr} {s t : State} (hwrb : ∀ ch data, i ≠ .wrb ch data)
    (h : exec i s = .next t) (hs : s.cfg.wrapperPresent = false ∧ s.Dark) :
    t.cfg.wrapperPresent = false ∧ t.Dark := by
  obtain ⟨hbare, hdark⟩ := hs
  refine ⟨by rwa [exec_keeps_cfg h], ?_⟩
  obtain rfl | rfl | ⟨⟨ch, data, rfl⟩, -⟩ := exec_of_not_running (fun ⟨hw, _⟩ => by simp [hbare] at hw) h
  · rw [exec_tick] at h
    cases h
    exact engineTick_dark hdark
  · rw [exec_rst] at h
    cases h
    exact resetFor_dark _ _
  · exact absurd rfl (hwrb ch data)

/-- Settles O53: the fault mask is part of the types, the Chase operations need the wrapper, and the port does not look
at the fault. -/
theorem bareConfigFaultLeavesPortEnabled : Obligations.BareConfigFaultLeavesPortEnabled := by
  intro c inbox ops t hbare _ h
  have hcoh : t.Coherent := runOps_keeps exec_keeps_coherent h (resetFor_coherent c inbox)
  have hcfg : t.cfg = c :=
    runOps_keeps (P := fun s => s.cfg = c) (fun h hs => (exec_keeps_cfg h).trans hs) h (State.resetFor_cfg c inbox)
  subst hcfg
  have hhalted : ¬ t.Running := fun ⟨hw, _⟩ => by simp [hbare] at hw
  obtain ⟨-, -, -, -, -, -, -, hmask⟩ := id hcoh
  refine ⟨hmask, ⟨_, exec_tick t⟩, chaseOps_refused hhalted,
    fun ch data hch => ⟨_, exec_wrb_of_enabled hcoh hbare hch data⟩, fun hnone => ?_⟩
  obtain ⟨-, -, hb, -, hout⟩ := runOps_forall (Q := fun _ => True) (P := fun s => s.cfg.wrapperPresent = false ∧ s.Dark)
    (fun i hi _ _ h hs => ⟨trivial, exec_keeps_bare_dark (fun ch data heq => hnone ch data (heq ▸ hi)) h hs⟩)
    h ⟨hbare, resetFor_dark t.cfg inbox⟩
  exact ⟨hb, hout⟩

end Sys2Proof.Machine
end

section
/-! PROOF. 42_chase_controller.md: the branches of CHK (R112, R116, R127), PAU and FDL (R117, R120), the per-channel
contract as a whole (R123), and the frame (R110, R124, R129). -/

namespace Sys2Proof.Machine

/-! ### R117, R120: the ends of the two delays -/

/-- Settles O33: PAU is stopped in any other phase or in a halted block, and else sets the phase. -/
theorem pauEndsPause : Obligations.PauEndsPause := fun _ =>
  ⟨fun hp hr => (exec_pau_eq_next ..).mpr ⟨⟨hr, hp⟩, rfl⟩, fun hstop => unlessStopped_chaseStop_refuses hstop _⟩

theorem exec_fdl_of_enabled {s : State} (hr : s.Running) (hp : s.phase = .frameDelay) :
    exec .fdl s = .next (s.setPhase .check) :=
  (exec_fdl_eq_next ..).mpr ⟨⟨hr, hp⟩, rfl⟩

/-- Settles O35: the typing puts the delay at channel 0. -/
theorem fdlEndsDelay : Obligations.FdlEndsDelay := by
  intro s ⟨_, _, _, _, _, _, hdelay, _⟩
  refine ⟨fun hp hr => ⟨hdelay hp, ?_⟩, fun hstop => unlessStopped_chaseStop_refuses hstop _⟩
  rw [exec_fdl_of_enabled hr hp, State.setPhase, ← hdelay hp]

/-! ### R112, R116: which steps of CHK take their branch -/

@[simp] theorem peakStep_cfg (i : Nat) (s : State) : (peakStep i s).cfg = s.cfg := by rw [peakStep_eq]
@[simp] theorem peakStep_direction (i : Nat) (s : State) : (peakStep i s).direction = s.direction := by
  rw [peakStep_eq]
@[simp] theorem peakStep_readBrightness (i j : Nat) (s : State) :
    (peakStep i s).readBrightness j = s.readBrightness j := by
  rw [peakStep_eq]
  rfl
@[simp] theorem peakStep_increment_length (i : Nat) (s : State) :
    (peakStep i s).increment.length = s.increment.length := by
  rw [peakStep_eq]
  dsimp only
  split_ifs <;> simp

/-- The increment that steps 2 and 3 of CHK find: at the peak step 1 has turned it down. -/
abbrev peakedIncrement (s : State) (i : Nat) : Byte :=
  if (s.readBrightness i).toNat = s.cfg.maxBright then minusStep s.cfg else s.readIncrement i

theorem peakStep_readIncrement_eq_peaked {i : Nat} {s : State} (hi : i < s.increment.length) :
    (peakStep i s).readIncrement i = peakedIncrement s i :=
  (peakStep_readIncrement_self hi).trans (if_congr (atPeak_iff _ _) rfl rfl)

theorem beforeCompletion_readIncrement_eq_peaked {i : Nat} {s : State} (hi : i < s.increment.length) :
    (beforeCompletion i s).readIncrement i = peakedIncrement s i := by
  rw [beforeCompletion, handoffStep_readIncrement_self, peakStep_readIncrement_eq_peaked hi]

theorem handsOff_peakStep_iff {i : Nat} {s : State} (hi : i < s.increment.length) :
    handsOff i (peakStep i s) = true ↔
      atThreshold s.cfg (s.readBrightness i) = true ∧ 0 < (peakedIncrement s i).toInt := by
  rw [handsOff_iff, peakStep_cfg, peakStep_readBrightness, peakStep_readIncrement_eq_peaked hi]

theorem completes_beforeCompletion_iff {i : Nat} {s : State} (hi : i < s.increment.length) :
    completes i (beforeCompletion i s) = true ↔ s.readBrightness i = 0 ∧ (peakedIncrement s i).toInt < 0 := by
  rw [completes_iff, beforeCompletion_readBrightness, beforeCompletion_readIncrement_eq_peaked hi]

theorem handoffStep_of_not_handsOff {i : Nat} {s : State} (h : ¬ handsOff i s = true) : handoffStep i s = s :=
  if_neg h

/-- The threshold test with its two policies as alternatives. -/
theorem atThreshold_iff_or (c : Config) (b : Byte) :
    atThreshold c b = true ↔ (c.handoffPolicy = .ge ∧ c.startThreshold ≤ b.toNat)
      ∨ (c.handoffPolicy = .eq ∧ c.startThreshold = b.toNat) := by
  rw [atThreshold_iff]
  cases c.handoffPolicy <;> simp

/-- A channel that is not at the peak and takes neither of the other branches goes through CHK as it is. -/
theorem checkChannel_of_no_branch {i : Nat} {s : State} (hpeak : (s.readBrightness i).toNat ≠ s.cfg.maxBright)
    (hoff : ¬ handsOff i s = true) (hcomp : ¬ completes i s = true) : checkChannel i s = s.setPhase .integrate := by
  have hbefore : beforeCompletion i s = s := by
    rw [beforeCompletion, peakStep_of_not_peak hpeak, handoffStep_of_not_handsOff hoff]
  rw [checkChannel_of_not_completes (by rwa [hbefore]), hbefore]

/-- Settles O31: the three premises are the negations of the three tests. -/
theorem chkWithoutBranchMovesPhaseOnly : Obligations.ChkWithoutBranchMovesPhaseOnly := by
  intro s hs hr hp hpeak hoff hcomp
  rw [exec_chk_of_enabled hs hr hp, checkChannel_of_no_branch hpeak ?handoff ?completion, State.setPhase]
  case handoff =>
    rw [handsOff_iff, atThreshold_iff_or]
    exact fun ⟨htest, hup⟩ => hoff ⟨hup, htest⟩
  case completion =>
    rwa [completes_iff]

theorem State.Running.scanIdx_lt_increment {s : State} (hr : s.Running) (hs : s.Coherent) :
    s.scanIdx < s.increment.length := by
  obtain ⟨-, hlen, -⟩ := id hs
  exact hlen ▸ hr.scanIdx_lt hs

theorem peakedIncrement_at_peak {i : Nat} {s : State} (hranges : s.cfg.RangesHold)
    (hpeak : atPeak s.cfg (s.readBrightness i) = true) : (peakedIncrement s i).toInt < 0 := by
  obtain ⟨⟨hS1, hS127⟩, -⟩ := hranges
  rw [peakedIncrement, if_pos ((atPeak_iff _ _).mp hpeak), minusStep_toInt hS127]
  omega

/-- The peak is not 0. -/
theorem readBrightness_ne_zero_of_peak {i : Nat} {s : State} (hranges : s.cfg.RangesHold)
    (hpeak : atPeak s.cfg (s.readBrightness i) = true) : s.readBrightness i ≠ 0 := by
  obtain ⟨-, ⟨hM1, -⟩, -⟩ := hranges
  have hmax := (atPeak_iff _ _).mp hpeak
  intro hzero
  rw [hzero, BitVec.ofNat_eq_ofNat, BitVec.toNat_zero] at hmax
  omega

/-- Settles O32: a peak leaves the increment falling and the brightness above 0, and no increment both rises and
falls. -/
theorem chkTakesAtMostOneBranch : Obligations.ChkTakesAtMostOneBranch := by
  intro s hs hr i s1 s2
  have hi : i < s.increment.length := hr.scanIdx_lt_increment hs
  have hranges := hr.rangesHold hs
  have hoff : handsOff i s1 = true ↔ _ := handsOff_peakStep_iff hi
  have hcomp : completes i s2 = true ↔ _ := completes_beforeCompletion_iff hi
  rw [hoff, hcomp]
  refine ⟨fun ⟨hpeak, _, hup⟩ => ?_, fun ⟨hpeak, hzero, _⟩ => readBrightness_ne_zero_of_peak hranges hpeak hzero,
    fun ⟨⟨_, hup⟩, _, hdown⟩ => by omega⟩
  have := peakedIncrement_at_peak hranges hpeak
  omega

/-! ### The other channels under CHK -/

theorem peakStep_increment_of_ne {i j : Nat} (hij : j ≠ i) (s : State) :
    (peakStep i s).increment[j]? = s.increment[j]? := by
  rw [peakStep_eq]
  dsimp only
  split_ifs
  · exact List.getElem?_set_ne (Ne.symm hij)
  · rfl

theorem completionStep_increment_of_ne {i j : Nat} (hij : j ≠ i) (s : State) :
    (completionStep i s).increment[j]? = s.increment[j]? := by
  rw [completionStep_eq]
  dsimp only
  split_ifs
  · exact List.getElem?_set_ne (Ne.symm hij)
  · exact List.getElem?_set_ne (Ne.symm hij)
  · rfl

/-- Of the three steps only the handoff reaches another channel. -/
theorem checkChannel_increment_of_ne {i j : Nat} (hij : j ≠ i) (s : State) :
    (checkChannel i s).increment[j]? = (handoffStep i (peakStep i s)).increment[j]? := by
  rw [checkChannel_eq, State.setPhase_increment, completionStep_increment_of_ne hij, beforeCompletion]

/-- R127: on the grid a brightness above `MAX_BRIGHT - S` is the peak. -/
theorem eq_maxBright_of_grid {c : Config} {b : Byte} (hw : c.wrapperPresent = true) (hv : c.Valid)
    (hb : GridValue c b) (habove : c.maxBright - c.fadeStep < b.toNat) : b.toNat = c.maxBright := by
  obtain ⟨hmod, hle⟩ := hb
  obtain ⟨-, hwrap⟩ := hv
  obtain ⟨⟨hmax, -⟩, -⟩ := hwrap hw
  have hdvd : c.fadeStep ∣ c.maxBright - b.toNat :=
    Nat.dvd_sub (Nat.dvd_of_mod_eq_zero hmax) (Nat.dvd_of_mod_eq_zero hmod)
  by_contra hne
  have hroom : c.fadeStep ≤ c.maxBright - b.toNat := Nat.le_of_dvd (by omega) hdvd
  omega

/-- Settles O41: the only grid value at the threshold is the peak, where step 1 has turned the increment down before
step 2 looks at it. -/
theorem noHandoffWithoutLiveConfiguration : Obligations.NoHandoffWithoutLiveConfiguration := by
  intro s t hs hgrid hv hge hlive h j hj
  obtain ⟨⟨hr, -⟩, -, rfl⟩ := (exec_chk_eq_next s t).mp h
  obtain ⟨hb, -⟩ := (onGrid_iff s).mp hgrid
  have hi := hr.scanIdx_lt_increment hs
  have hib : s.scanIdx < s.brightness.length := hs.1 ▸ hr.scanIdx_lt hs
  have hoff : ¬ handsOff s.scanIdx (peakStep s.scanIdx s) = true := by
    rw [handsOff_peakStep_iff hi, atThreshold_iff]
    rintro ⟨⟨hthreshold, -⟩, hup⟩
    have hpeak := eq_maxBright_of_grid hr.1 hv (hb _ (readBrightness_mem hib))
      (lt_of_lt_of_le (Nat.lt_of_not_le hlive) (hthreshold hge))
    have := peakedIncrement_at_peak (hr.rangesHold hs) ((atPeak_iff _ _).mpr hpeak)
    omega
  rw [checkChannel_increment_of_ne hj, handoffStep_of_not_handsOff hoff, peakStep_increment_of_ne hj]

/-! ### R123: the per-channel contract as a whole -/

/-- The state after CHK, the pause if there is one, and INT. -/
def chstepResult (s : State) : State :=
  integrateChannel s.scanIdx ((checkChannel s.scanIdx s).setPhase .integrate)

theorem setPhase_self {s : State} {p : Phase} (h : s.phase = p) : s.setPhase p = s := by
  subst h
  rfl

theorem checkChannel_running {s : State} (hr : s.Running) (i : Nat) : (checkChannel i s).Running := by
  rwa [State.Running, checkChannel_cfg, checkChannel_configFault]

/-- After CHK the pause, or its absence, leads to INTEGRATE. -/
theorem pauseIfDue_checkChannel {s : State} (hr : s.Running) (i : Nat) :
    pauseIfDue (checkChannel i s) = .next ((checkChannel i s).setPhase .integrate) := by
  unfold pauseIfDue
  obtain ⟨hp, -⟩ | ⟨hp, -⟩ := checkChannel_phase i s
  · rw [if_pos hp]
    exact (exec_pau_eq_next ..).mpr ⟨⟨checkChannel_running hr i, hp⟩, rfl⟩
  · rw [if_neg (by simp [hp]), setPhase_self hp]

/-- A coherent running state of any phase but the delay integrates once its phase is INTEGRATE. -/
theorem exec_int_setPhase {s : State} (hs : s.Coherent) (hr : s.Running) :
    exec .int (s.setPhase .integrate) = .next (integrateChannel s.scanIdx (s.setPhase .integrate)) :=
  exec_int_of_enabled (s := s.setPhase .integrate) (setPhase_coherent hs (by simp)) hr rfl

theorem runChstep_eq_next {s : State} (hs : s.Coherent) (hr : s.Running) (hp : s.phase = .check) :
    runChstep s = .next (chstepResult s) := by
  rw [runChstep, exec_chk_of_enabled hs hr hp, andThen_next, pauseIfDue_checkChannel hr, andThen_next,
    exec_int_setPhase (checkChannel_coherent hs _) (checkChannel_running hr _), checkChannel_scanIdx, chstepResult]

@[simp] theorem setPhase_readBrightness (s : State) (p : Phase) (j : Nat) :
    (s.setPhase p).readBrightness j = s.readBrightness j := rfl
@[simp] theorem setPhase_readIncrement (s : State) (p : Phase) (j : Nat) :
    (s.setPhase p).readIncrement j = s.readIncrement j := rfl

theorem integrateChannel_readBrightness (i j : Nat) (s : State) :
    (integrateChannel i s).readBrightness j =
      (s.writeBrightness i (s.readBrightness i + s.readIncrement i)).readBrightness j := by
  rw [integrateChannel_eq]
  rfl

theorem integrateChannel_readIncrement (i j : Nat) (s : State) :
    (integrateChannel i s).readIncrement j = s.readIncrement j := by
  simp [State.readIncrement]

theorem checkChannel_readBrightness (i j : Nat) (s : State) :
    (checkChannel i s).readBrightness j = s.readBrightness j := by
  simp [State.readBrightness]

theorem chstepResult_readIncrement (s : State) (j : Nat) :
    (chstepResult s).readIncrement j = (checkChannel s.scanIdx s).readIncrement j := by
  rw [chstepResult, integrateChannel_readIncrement, setPhase_readIncrement]

theorem chstepResult_direction (s : State) : (chstepResult s).direction = (checkChannel s.scanIdx s).direction := by
  rw [chstepResult, integrateChannel_direction, State.setPhase_direction]

theorem chstepResult_readBrightness_self {s : State} (hs : s.Coherent) (hr : s.Running) :
    (chstepResult s).readBrightness s.scanIdx =
      s.readBrightness s.scanIdx + (checkChannel s.scanIdx s).readIncrement s.scanIdx := by
  have hlt : s.scanIdx < s.brightness.length := hs.1 ▸ hr.scanIdx_lt hs
  have hlt' : s.scanIdx < ((checkChannel s.scanIdx s).setPhase .integrate).brightness.length := by
    rwa [State.setPhase_brightness, checkChannel_brightness]
  rw [chstepResult, integrateChannel_readBrightness, readBrightness_writeBrightness, if_pos ⟨rfl, hlt'⟩,
    setPhase_readBrightness, setPhase_readIncrement, checkChannel_readBrightness]

theorem chstepResult_readBrightness_of_ne {s : State} {j : Nat} (hj : j ≠ s.scanIdx) :
    (chstepResult s).readBrightness j = s.readBrightness j := by
  rw [chstepResult, integrateChannel_readBrightness, readBrightness_writeBrightness, if_neg fun ⟨h, _⟩ => hj h,
    setPhase_readBrightness, checkChannel_readBrightness]

theorem chstepResult_phase (s : State) :
    (chstepResult s).phase = if s.scanIdx + 1 = s.cfg.n then .frameDelay else .check := by
  rw [chstepResult, integrateChannel_eq, State.setPhase_cfg, checkChannel_cfg]

theorem chstepResult_scanIdx {s : State} (hlt : s.scanIdx < s.cfg.n) :
    (chstepResult s).scanIdx = (s.scanIdx + 1) % s.cfg.n := by
  rw [chstepResult, integrateChannel_eq, State.setPhase_cfg, checkChannel_cfg]
  dsimp only
  split_ifs with hlast
  · rw [hlast, Nat.mod_self]
  · exact (Nat.mod_eq_of_lt (by omega)).symm

/-- The last channel in the sweep direction, in the form R123 words it. -/
abbrev AtSweepEnd (s : State) (i : Nat) : Prop :=
  (s.direction = false ∧ i = s.cfg.n - 1) ∨ (s.direction = true ∧ i = 0)

theorem reverses_beforeCompletion_iff {i : Nat} {s : State} (hi : i < s.increment.length) (hn : i < s.cfg.n) :
    reverses i (beforeCompletion i s) = true ↔
      (s.readBrightness i = 0 ∧ (peakedIncrement s i).toInt < 0) ∧ AtSweepEnd s i := by
  have hlast : i + 1 = s.cfg.n ↔ i = s.cfg.n - 1 := by omega
  rw [reverses_iff, completes_beforeCompletion_iff hi, isBoundary_iff, beforeCompletion_cfg,
    beforeCompletion_direction, hlast]

/-- A handoff gives `+S` to the next channel in the sweep direction and to no other. -/
theorem handoffStep_readIncrement {i : Nat} {s : State} (hlen : s.increment.length = s.cfg.n) (hn : i < s.cfg.n)
    (j : Nat) :
    (handoffStep i s).readIncrement j =
      if handsOff i s = true ∧ nextChannel s.cfg s.direction i = some j then plusStep s.cfg else s.readIncrement j := by
  by_cases hoff : handsOff i s = true
  · cases hk : nextChannel s.cfg s.direction i with
    | none => simp [handoffStep_of_no_next hk]
    | some k =>
      have hkn : k < s.increment.length := by
        have := (nextChannel_eq_some ..).mp hk
        omega
      rw [handoffStep_of_next hoff hk, readIncrement_writeIncrement]
      exact if_congr (by simp [hoff, hkn, eq_comm]) rfl rfl
  · rw [handoffStep_of_not_handsOff hoff, if_neg fun ⟨h, _⟩ => hoff h]

theorem readIncrement_congr {s t : State} {j : Nat} (h : s.increment[j]? = t.increment[j]?) :
    s.readIncrement j = t.readIncrement j := by
  rw [State.readIncrement, State.readIncrement, List.getD_eq_getElem?_getD, List.getD_eq_getElem?_getD, h]

theorem checkChannel_readIncrement_of_ne {i j : Nat} {s : State} (hlen : s.increment.length = s.cfg.n)
    (hn : i < s.cfg.n) (hj : j ≠ i) :
    (checkChannel i s).readIncrement j =
      if atThreshold s.cfg (s.readBrightness i) = true ∧ 0 < (peakedIncrement s i).toInt
          ∧ nextChannel s.cfg s.direction i = some j
      then plusStep s.cfg else s.readIncrement j := by
  rw [readIncrement_congr (checkChannel_increment_of_ne hj s),
    handoffStep_readIncrement (by rw [peakStep_increment_length, peakStep_cfg, hlen]) (by rwa [peakStep_cfg]),
    peakStep_cfg, peakStep_direction, readIncrement_congr (peakStep_increment_of_ne hj s)]
  exact if_congr (by rw [handsOff_peakStep_iff (by omega), and_assoc]) rfl rfl

/-- Settles O38: CHK decides the increments and the direction, and INT the brightness and the position. -/
theorem chstepNetEffect : Obligations.ChstepNetEffect := by
  intro s hs hr hp i inc1 done rev inc2
  obtain ⟨-, hlen, -⟩ := id hs
  have hn : i < s.cfg.n := hr.scanIdx_lt hs
  have hi : i < s.increment.length := hr.scanIdx_lt_increment hs
  have hdone : completes i (beforeCompletion i s) = true ↔ done := completes_beforeCompletion_iff hi
  have hrev : reverses i (beforeCompletion i s) = true ↔ rev := reverses_beforeCompletion_iff hi hn
  have hinc : (checkChannel i s).readIncrement i = inc2 :=
    (checkChannel_readIncrement_self hi).trans
      (if_congr hrev rfl (if_congr hdone rfl (if_congr (atPeak_iff _ _) rfl rfl)))
  refine ⟨chstepResult s, runChstep_eq_next hs hr hp, ?inc, ?bright, fun j hj => chstepResult_readBrightness_of_ne hj,
    ?dir, chstepResult_scanIdx hn, chstepResult_phase s, fun j hj => ?others⟩
  case inc => rw [chstepResult_readIncrement, hinc]
  case bright => rw [chstepResult_readBrightness_self hs hr, hinc]
  case dir => exact (chstepResult_direction s).trans ((checkChannel_direction i s).trans (if_congr hrev rfl rfl))
  case others => rw [chstepResult_readIncrement, checkChannel_readIncrement_of_ne hlen hn hj]

end Sys2Proof.Machine
end

section
/-! PROOF. 42_chase_controller.md: the frame, as an induction over the channels (R110, R124), and the reversal at the
boundary (R129). -/

namespace Sys2Proof.Machine

/-! ### The induction over the channels -/

theorem repeatRun_induct {run : State → Result} {P : Nat → State → Prop} {n : Nat}
    (hstep : ∀ k s, k < n → P k s → ∃ t, run s = .next t ∧ P (k + 1) t) (m : Nat) :
    ∀ k s, k + m = n → P k s → ∃ t, repeatRun run m s = .next t ∧ P n t := by
  induction m with
  | zero =>
    rintro k s rfl hs
    exact ⟨s, rfl, hs⟩
  | succ m ih =>
    intro k s hk hs
    obtain ⟨t, ht, hPt⟩ := hstep k s (by omega) hs
    obtain ⟨u, hu, hPu⟩ := ih (k + 1) t (by omega) hPt
    exact ⟨u, (repeatRun_succ_eq_next ..).mpr ⟨t, ht, hu⟩, hPu⟩

theorem runChstep_keeps {P : State → Prop}
    (hstep : ∀ {i s t}, i ≠ .tick → i ≠ .rst → exec i s = .next t → P s → P t) {s t : State}
    (h : runChstep s = .next t) (hs : P s) : P t := by
  obtain ⟨v, hv, hint⟩ := (andThen_eq_next ..).mp h
  obtain ⟨u, hchk, hpause⟩ := (andThen_eq_next ..).mp hv
  have hu : P u := hstep (by simp) (by simp) hchk hs
  have hPv : P v := by
    unfold pauseIfDue at hpause
    split at hpause
    · exact hstep (by simp) (by simp) hpause hu
    · cases hpause
      exact hu
  exact hstep (by simp) (by simp) hint hPv

/-- Within a frame that began in `s`, before channel `k` of the pass: `s` with its engine and its configuration, and
the position of the next contract, or of the delay after the last one. -/
structure InFrame (s : State) (k : Nat) (u : State) : Prop where
  coherent : u.Coherent
  running : u.Running
  cfg : u.cfg = s.cfg
  outside : u = u.withOutside s
  check : k < s.cfg.n → u.phase = .check ∧ u.scanIdx = k
  delay : k = s.cfg.n → u.phase = .frameDelay ∧ u.scanIdx = 0

theorem inFrame_start {s : State} (hs : s.Coherent) (hr : s.Running) (hp : s.phase = .check) (h0 : s.scanIdx = 0) :
    InFrame s 0 s where
  coherent := hs
  running := hr
  cfg := rfl
  outside := rfl
  check := fun _ => ⟨hp, h0⟩
  delay := fun hn => absurd (h0 ▸ hr.scanIdx_lt hs) (by omega)

theorem withOutside_trans {a b s : State} (hb : b = b.withOutside a) (ha : a = a.withOutside s) :
    b = b.withOutside s :=
  hb.trans (by rw [ha]; rfl)

/-- The main context's operations keep the frame of `InFrame`, whatever the position. -/
theorem runChstep_keeps_frame {s u v : State} (h : runChstep u = .next v) (hcoh : u.Coherent) (hr : u.Running)
    (hcfg : u.cfg = s.cfg) (hout : u = u.withOutside s) :
    v.Coherent ∧ v.Running ∧ v.cfg = s.cfg ∧ v = v.withOutside s := by
  obtain ⟨hw, hfault⟩ := hr
  refine runChstep_keeps (P := fun t => t.Coherent ∧ t.Running ∧ t.cfg = s.cfg ∧ t = t.withOutside s)
    (fun {i a b} htick hrst hexec ⟨hacoh, ⟨haw, hafault⟩, hacfg, haout⟩ => ?_) h ⟨hcoh, ⟨hw, hfault⟩, hcfg, hout⟩
  have hbcfg := exec_keeps_cfg hexec
  refine ⟨exec_keeps_coherent hexec hacoh, ⟨hbcfg ▸ haw, (exec_keeps_configFault hrst hexec).trans hafault⟩,
    hbcfg.trans hacfg, withOutside_trans (exec_keeps_outside htick hrst hexec) haout⟩

theorem inFrame_chstepResult {s u : State} {k : Nat} (hk : k < s.cfg.n) (hu : InFrame s k u) :
    InFrame s (k + 1) (chstepResult u) := by
  obtain ⟨hp, hscan⟩ := hu.check hk
  have hn : u.scanIdx + 1 = u.cfg.n ↔ k + 1 = s.cfg.n := by rw [hu.cfg, hscan]
  have hphase := chstepResult_phase u
  have hpos := chstepResult_scanIdx (hu.running.scanIdx_lt hu.coherent)
  rw [hscan, hu.cfg] at hpos hphase
  obtain ⟨hcoh, hr, hcfg, hout⟩ := runChstep_keeps_frame (runChstep_eq_next hu.coherent hu.running hp) hu.coherent
    hu.running hu.cfg hu.outside
  refine ⟨hcoh, hr, hcfg, hout, fun hlt => ?check, fun hlast => ?delay⟩
  case check => exact ⟨hphase.trans (if_neg hlt.ne), hpos.trans (Nat.mod_eq_of_lt hlt)⟩
  case delay => exact ⟨hphase.trans (if_pos hlast), hpos.trans (by rw [hlast, Nat.mod_self])⟩

/-- A frame: what holds at its start and is carried on by each channel's contract holds after the last one, and FDL
returns the position to the first channel's checks. -/
theorem runFrame_induct {P : Nat → State → Prop} {s : State} (hs : s.Coherent) (hr : s.Running) (hp : s.phase = .check)
    (h0 : s.scanIdx = 0) (hstart : P 0 s)
    (hstep : ∀ k u, k < s.cfg.n → InFrame s k u → P k u → P (k + 1) (chstepResult u)) :
    ∃ t, runFrame s = .next (t.setPhase .check) ∧ InFrame s s.cfg.n t ∧ P s.cfg.n t := by
  have hcontract : ∀ k u, k < s.cfg.n → InFrame s k u ∧ P k u →
      ∃ v, runChstep u = .next v ∧ InFrame s (k + 1) v ∧ P (k + 1) v := fun k u hk ⟨hu, hPu⟩ =>
    ⟨chstepResult u, runChstep_eq_next hu.coherent hu.running (hu.check hk).1, inFrame_chstepResult hk hu,
      hstep k u hk hu hPu⟩
  obtain ⟨t, hrun, ht, hPt⟩ := repeatRun_induct (P := fun k u => InFrame s k u ∧ P k u) hcontract s.cfg.n 0 s
    (Nat.zero_add _) ⟨inFrame_start hs hr hp h0, hstart⟩
  obtain ⟨hdelay, -⟩ := ht.delay rfl
  refine ⟨t, ?_, ht, hPt⟩
  rw [runFrame, if_pos ⟨h0, hp⟩, hrun, andThen_next, exec_fdl_of_enabled ht.running hdelay]

/-- Settles O39: the frame's own invariant is all it asks for. -/
theorem frameReturnsToItsStart : Obligations.FrameReturnsToItsStart := by
  intro s hs hr
  refine ⟨fun hp h0 => ?frame, fun hstart => ?refused⟩
  case frame =>
    obtain ⟨t, hrun, ht, -⟩ := runFrame_induct (P := fun _ _ => True) hs hr hp h0 trivial fun _ _ _ _ _ => trivial
    obtain ⟨-, hscan⟩ := ht.delay rfl
    refine ⟨t.setPhase .check, hrun, rfl, hscan, setPhase_coherent ht.coherent (by simp), ht.cfg, ?_⟩
    rw [ht.outside]
    exact ⟨rfl, rfl, rfl, rfl⟩
  case refused => exact ⟨.frameNotAtStart, if_neg fun ⟨h0, hp⟩ => hstart ⟨hp, h0⟩⟩

/-! ### R129: the reversal -/

/-- A dark channel is not at the peak, so its increment reaches step 2 as it is. -/
theorem peakedIncrement_of_zero {s : State} {i : Nat} (hranges : s.cfg.RangesHold) (hzero : s.readBrightness i = 0) :
    peakedIncrement s i = s.readIncrement i :=
  if_neg fun hpeak => readBrightness_ne_zero_of_peak hranges ((atPeak_iff _ _).mpr hpeak) hzero

/-- What the whole contract leaves of the channel's own elements and of the direction, where the channel is dark:
only a falling one at the end of the sweep is seeded and turns the direction. -/
theorem chstepResult_of_zero {s : State} (hs : s.Coherent) (hr : s.Running) (hzero : s.readBrightness s.scanIdx = 0)
    (hnup : (s.readIncrement s.scanIdx).toInt ≤ 0)
    (hend : (s.readIncrement s.scanIdx).toInt < 0 → AtSweepEnd s s.scanIdx) :
    (∀ j, (chstepResult s).readIncrement j =
        if j = s.scanIdx ∧ (s.readIncrement s.scanIdx).toInt < 0 then plusStep s.cfg else s.readIncrement j)
      ∧ (chstepResult s).direction =
        (if (s.readIncrement s.scanIdx).toInt < 0 then !s.direction else s.direction) := by
  obtain ⟨-, hlen, -⟩ := id hs
  have hn : s.scanIdx < s.cfg.n := hr.scanIdx_lt hs
  have hi : s.scanIdx < s.increment.length := hr.scanIdx_lt_increment hs
  have hpeaked := peakedIncrement_of_zero (hr.rangesHold hs) hzero
  have hcomp := completes_beforeCompletion_iff hi
  have hrev := reverses_beforeCompletion_iff hi hn
  rw [hpeaked, and_iff_right hzero] at hcomp hrev
  have hrev' := hrev.trans (and_iff_left_of_imp hend)
  refine ⟨fun j => ?_, (chstepResult_direction s).trans ((checkChannel_direction _ _).trans (if_congr hrev' rfl rfl))⟩
  rw [chstepResult_readIncrement]
  by_cases hj : j = s.scanIdx
  · subst hj
    have hpeak : ¬ atPeak s.cfg (s.readBrightness s.scanIdx) = true := fun hpeak =>
      readBrightness_ne_zero_of_peak (hr.rangesHold hs) hpeak hzero
    rw [checkChannel_readIncrement_self hi, if_neg hpeak]
    by_cases hdown : (s.readIncrement s.scanIdx).toInt < 0
    · rw [if_pos (hrev'.mpr hdown), if_pos ⟨rfl, hdown⟩]
    · rw [if_neg (mt hrev'.mp hdown), if_neg (mt hcomp.mp hdown), if_neg fun ⟨_, h⟩ => hdown h]
  · rw [checkChannel_readIncrement_of_ne hlen hn hj, hpeaked, if_neg fun ⟨_, hup, _⟩ => by omega,
      if_neg fun ⟨h, _⟩ => hj h]

/-- The sweep within the frame that reverses it at channel `e`, before channel `k`: once `e` has had its turn it is
seeded and lit by one step and the direction is inverted; every other channel is idle and dark. -/
structure Reversing (s : State) (e k : Nat) (u : State) : Prop where
  direction : u.direction = if e < k then !s.direction else s.direction
  brightness : ∀ j, j < s.cfg.n → u.readBrightness j = if j = e ∧ e < k then plusStep s.cfg else 0
  increment : ∀ j, j < s.cfg.n →
    u.readIncrement j = if j = e then if e < k then plusStep s.cfg else s.readIncrement e else 0

theorem reversing_start {s : State} {e : Nat} (hzero : ∀ j, j < s.cfg.n → s.readBrightness j = 0)
    (hidle : ∀ j, j < s.cfg.n → j ≠ e → s.readIncrement j = 0) : Reversing s e 0 s where
  direction := rfl
  brightness := fun j hj => by rw [hzero j hj, if_neg (by omega)]
  increment := fun j hj => by
    by_cases hje : j = e
    · simp [hje]
    · rw [if_neg hje, hidle j hj hje]

theorem reversing_chstepResult {s u : State} {e k : Nat} (hend : AtSweepEnd s e)
    (hdown : (s.readIncrement e).toInt < 0) (hk : k < s.cfg.n) (hu : InFrame s k u) (h : Reversing s e k u) :
    Reversing s e (k + 1) (chstepResult u) := by
  obtain ⟨-, hscan⟩ := hu.check hk
  obtain ⟨hdir, hbright, hinc⟩ := h
  have hdark : u.readBrightness k = 0 := by rw [hbright k hk, if_neg (by omega)]
  have hown : u.readIncrement k = if k = e then s.readIncrement e else 0 := by
    rw [hinc k hk]
    refine if_ctx_congr Iff.rfl (fun hke => if_neg (by omega)) fun _ => rfl
  have hfalls : (u.readIncrement k).toInt < 0 ↔ k = e := by
    rw [hown]
    split_ifs with hke <;> simp [hke, hdown]
  have hnup : (u.readIncrement k).toInt ≤ 0 := by
    rw [hown]
    split_ifs
    · exact hdown.le
    · simp
  have hsweep : (u.readIncrement k).toInt < 0 → AtSweepEnd u k := fun hneg => by
    obtain rfl := hfalls.mp hneg
    rwa [AtSweepEnd, hdir, if_neg (lt_irrefl k), hu.cfg]
  subst hscan
  obtain ⟨hinc', hdir'⟩ := chstepResult_of_zero hu.coherent hu.running hdark hnup hsweep
  simp only [hfalls, hu.cfg] at hinc' hdir'
  have hincrement : ∀ j, j < s.cfg.n → (chstepResult u).readIncrement j =
      if j = e then if e < u.scanIdx + 1 then plusStep s.cfg else s.readIncrement e else 0 := by
    intro j hj
    rw [hinc' j, hinc j hj]
    by_cases hje : j = e
    · rw [if_pos hje, if_pos hje]
      by_cases hturn : j = u.scanIdx
      · rw [if_pos (by omega), if_pos (by omega)]
      · rw [if_neg (by omega)]
        exact if_congr (by omega) rfl rfl
    · rw [if_neg (by omega), if_neg hje, if_neg hje]
  refine ⟨?direction, fun j hj => ?brightness, hincrement⟩
  case direction =>
    rw [hdir', hdir]
    by_cases hturn : u.scanIdx = e
    · rw [if_pos hturn, if_neg (by omega), if_pos (by omega)]
    · rw [if_neg hturn]
      exact if_congr (by omega) rfl rfl
  case brightness =>
    by_cases hje : j = u.scanIdx
    · subst hje
      rw [chstepResult_readBrightness_self hu.coherent hu.running, ← chstepResult_readIncrement, hdark,
        hincrement _ hj, BitVec.ofNat_eq_ofNat, BitVec.zero_add]
      by_cases hturn : u.scanIdx = e
      · rw [if_pos hturn, if_pos (by omega), if_pos (by omega)]
      · rw [if_neg hturn, if_neg (by omega)]
    · rw [chstepResult_readBrightness_of_ne hje, hbright j hj]
      exact if_congr (by omega) rfl rfl

/-- Settles O40: at the end of the frame every channel has had its turn, the boundary channel among them. -/
theorem reversalAtTheBoundary : Obligations.ReversalAtTheBoundary := by
  intro s e hs hr hp h0 hend hzero hidle hdown
  have hn : 0 < s.cfg.n := h0 ▸ hr.scanIdx_lt hs
  have he : e < s.cfg.n := by omega
  obtain ⟨⟨-, hS127⟩, -⟩ := hr.rangesHold hs
  obtain ⟨t, hrun, -, hdir, hbright, hinc⟩ := runFrame_induct (P := Reversing s e) hs hr hp h0
    (reversing_start hzero hidle) fun k u hk hu => reversing_chstepResult hend hdown hk hu
  refine ⟨t.setPhase .check, hrun, hdir.trans (if_pos he), ?_, ?_, fun j hj hje => ?_⟩
  · rw [setPhase_readIncrement, hinc e he, if_pos rfl, if_pos he, plusStep_toInt hS127]
  · rw [setPhase_readBrightness, hbright e he, if_pos ⟨rfl, he⟩, plusStep_toNat hS127]
  · rw [setPhase_readBrightness, hbright j hj, if_neg fun ⟨h, _⟩ => hje h]

end Sys2Proof.Machine
end
